-- ==== Sys2Proof/Word.lean ====
section
/-! DEFINITION. The words of the part: bytes and two-byte fields, as the ports and the drive link carry them (R192). -/

namespace Sys2Proof

/-- A byte is 8 bits (00_scope.md, Numbers). -/
abbrev Byte := BitVec 8

/-- A two-byte field of a frame (R192). -/
abbrev Half := BitVec 16

end Sys2Proof
end

