-- ==== Sys2Proof/Syntax.lean ====
section
/-! DEFINITION. The commands: one constructor for each row of spec/opcode_table.json, with the operands of that event.
A request of the engine carries no operand: its fields are in the slot that the arbiter chooses (R151, R152). -/

namespace Sys2Proof

/-- A lane index, 0 to 23 (R2). -/
abbrev LaneId := Fin 24

/-- A slot number of a port, 0 to 3 (chapter 7, section 7.4). -/
abbrev SlotId := Fin 4

/-- The two command ports. -/
inductive PortId where
  | s
  | u
  deriving DecidableEq, Repr

/-- The levels of the port U rate straps, read at power-on and at RESET_N (00_scope.md, Port U rate straps). -/
structure Straps where
  baud1 : Bool
  baud0 : Bool
  deriving DecidableEq, Repr

/-- The events of the part, one constructor a row of the table. -/
inductive Instr where
  /-- POWER_ON: supply applied, with the straps as they are read then. -/
  | powerOn (straps : Straps)
  /-- RESET_N_ASSERTION, with the straps as they are read then. -/
  | resetNAssertion (straps : Straps)
  /-- RESET_N_RELEASE. -/
  | resetNRelease
  /-- HALT_ASSERTION: the filtered HALT level changes to asserted. -/
  | haltAssertion
  /-- HALT_RELEASE: the filtered HALT level changes to released. -/
  | haltRelease
  /-- GOOD_FRAME: the bytes of one whole request frame have arrived at a port. -/
  | goodFrame (p : PortId) (bytes : List Byte)
  /-- FRAME_DISCARD: the bytes of a frame that is too long or fails its CRC have arrived at a port. -/
  | frameDiscard (p : PortId) (bytes : List Byte)
  /-- WRITE_ABORTED: CS_N is deasserted after these bytes of a port S request frame, before its end. -/
  | writeAborted (bytes : List Byte)
  /-- FRAMING_ERROR: a port U character with its stop bit low. -/
  | framingError
  /-- GAP_TIMER_EXPIRY: the port U gap timer expires. -/
  | gapTimerExpiry
  /-- PORT_RESET: the port-reset command byte on port S, or a break on port U. -/
  | portReset (p : PortId)
  /-- READ_RESPONSE: a port S read-response transaction with this many bytes clocked after the command byte. -/
  | readResponse (clocked : Nat)
  /-- RESPONSE_SEND_START: the idle port U transmitter starts sending. -/
  | responseSendStart
  /-- RESPONSE_TRANSMITTED: the last stop bit of a port U response has been sent. -/
  | responseTransmitted
  /-- UNKNOWN_REQUEST: the engine executes a request whose code is not one of the 28. -/
  | unknownRequest
  /-- DEFINE_LANE, executed by the engine. -/
  | defineLane
  /-- AMEND_LANE, executed by the engine. -/
  | amendLane
  /-- PIN_LANE, executed by the engine. -/
  | pinLane
  /-- RETIRE_LANE, executed by the engine. -/
  | retireLane
  /-- READ_LANE, executed by the engine. -/
  | readLane
  /-- FIND_DRIVE, executed by the engine. -/
  | findDrive
  /-- LIST_LANES, executed by the engine. -/
  | listLanes
  /-- START, executed by the engine. -/
  | start
  /-- STOP, executed by the engine. -/
  | stop
  /-- HOLD, executed by the engine. -/
  | hold
  /-- RESUME, executed by the engine. -/
  | resume
  /-- SET_POINT, executed by the engine. -/
  | setPoint
  /-- SET_SOURCE, executed by the engine. -/
  | setSource
  /-- SET_RATIO, executed by the engine. -/
  | setRatio
  /-- CLEAR_TRIP, executed by the engine. -/
  | clearTrip
  /-- APPEND_SEGMENT, executed by the engine. -/
  | appendSegment
  /-- RUN_PROFILE, executed by the engine. -/
  | runProfile
  /-- PAUSE_PROFILE, executed by the engine. -/
  | pauseProfile
  /-- FLUSH_PROFILE, executed by the engine. -/
  | flushProfile
  /-- READ_PROFILE, executed by the engine. -/
  | readProfile
  /-- CLAIM, executed by the engine. -/
  | claim
  /-- RELEASE, executed by the engine. -/
  | release
  /-- SET_LEASE, executed by the engine. -/
  | setLease
  /-- SET_ATTENTION_MASK, executed by the engine. -/
  | setAttentionMask
  /-- READ_ATTENTION, executed by the engine. -/
  | readAttention
  /-- ACK_ATTENTION, executed by the engine. -/
  | ackAttention
  /-- READ_DEVICE, executed by the engine. -/
  | readDevice
  /-- NOP, executed by the engine. -/
  | nop
  /-- LANE_UPDATE: the update timer of a lane expires. -/
  | laneUpdate (i : LaneId)
  /-- LEASE_EXPIRY: the lease timer of a port expires. -/
  | leaseExpiry (p : PortId)
  /-- TRANSACTION_START: the idle drive link controller starts the oldest pending entry. -/
  | transactionStart
  /-- LINK_FRAME_SENT: the stop bit of the frame's last character has been sent on the link. -/
  | linkFrameSent
  /-- DRIVE_REPLY: these characters of a reply have been received to the reply's end. -/
  | driveReply (bytes : List Byte)
  /-- REPLY_WINDOW_TIMEOUT: the reply window closes. -/
  | replyWindowTimeout
  /-- REPLY_BROKEN: a gap or a low stop bit breaks the reply. -/
  | replyBroken
  /-- GUARD_END: the guard pause ends. -/
  | guardEnd
  /-- RECEIVED_CHARACTER: a whole character arrives at port U. -/
  | receivedCharacter (b : Byte)
  /-- REPLY_BEGUN: a start bit arrives on DLRX while the reply window is open. -/
  | replyBegun
  deriving DecidableEq, Repr

end Sys2Proof
end

