-- ==== Sys2Proof/Config.lean ====
section
/-! DEFINITION. What the part fixes once and for all, and the one thing the spec leaves free. -/

namespace Sys2Proof

/-- The part revision that READ_DEVICE reports: 0x21 for the part the manual describes (chapter 10, READ_DEVICE). -/
def Config.partRevision : Byte := 0x21

/-- The number of slots of the segment pool (R52). -/
def Config.poolSlots : Nat := 64

/-- The most segments a profile queue holds (R53). -/
def Config.queueMax : Nat := 12

/-- The strike count at which a port becomes BARRED (R124). -/
def Config.strikeLimit : Nat := 5

/-- The deepest a lane may stand in a follow chain (R79). -/
def Config.depthMax : Nat := 4

/-- The ticks of the gap timer (R145). -/
def Config.gapTicks : Nat := 2

/-- Ticks of the time base in one unit of a lease period (R126). -/
def Config.leaseUnit : Nat := 10

/-- FREE VALUE (log 3). The spec gives no order among the events that fall on one tick of the time base (R28, R47, R114).
They are taken in the order of this rank, which depends on the tick and the event and has no stated value. -/
opaque Config.tickRank : Nat → Instr → Nat

end Sys2Proof
end

