-- ==== Sys2Proof/Machine/State.lean ====
section
/-! DEFINITION. Everything the part holds, as plain data, and its values after power-on. A field of a lane record that the
spec calls absent in a lane state (the table of R2) has no place in that state's constructor, or is an Option. -/

namespace Sys2Proof.Machine

/-! ## The lane record (R2) -/

/-- What a claimed lane does when its port lapses (R3). -/
inductive Fallback where
  | hold
  | stop
  | release
  deriving DecidableEq, Repr

/-- Which value of the parent is followed (R75). -/
inductive Basis where
  | output
  | feedback
  deriving DecidableEq, Repr

/-- The track mode (R33, R36). -/
inductive Track where
  | locked
  | blending
  deriving DecidableEq, Repr

/-- Why a lane is STOPPING (R93). -/
inductive StopCause where
  | command
  | halt
  | lapse
  deriving DecidableEq, Repr

/-- Why a lane is TRIPPED (R93). -/
inductive TripCause where
  | drive
  | link
  | cascade
  deriving DecidableEq, Repr

/-- The state a drive reports (R174). -/
inductive DriveState where
  | ready
  | run
  | trip
  deriving DecidableEq, Repr

/-- The configuration of a lane (R3). The update period is held as its code: code k stands for 2^k ms (R192). -/
structure LaneCfg where
  address    : Nat
  periodCode : Fin 6
  lowLimit   : Int
  highLimit  : Int
  slewStep   : Nat
  blendStep  : Nat
  stopStep   : Nat
  autoResume : Bool
  coupled    : Bool
  fallback   : Fallback
  deriving DecidableEq, Repr

/-- The follow link of a FOLLOW lane (R75). -/
structure FollowLink where
  parent : LaneId
  ratio  : Nat
  trim   : Int
  basis  : Basis
  deriving DecidableEq, Repr

/-- The base source (R30), with the link that only FOLLOW has (R75). -/
inductive Source where
  | fixed
  | follow (link : FollowLink)
  deriving DecidableEq, Repr

/-- The fields that one kind of segment has (R51). -/
inductive SegBody where
  | ramp (endValue : Int) (peak : Nat) (accel : Nat)
  | dwell (count : Nat)
  deriving DecidableEq, Repr

/-- A segment (R51). -/
structure Segment where
  body   : SegBody
  notify : Bool
  tag    : Byte
  deriving DecidableEq, Repr

/-- Head progress (R54). -/
inductive Progress where
  | notStarted
  | rate (r : Nat)
  | count (n : Nat)
  deriving DecidableEq, Repr

/-- The profile run state; profile value and head progress exist only beside RUNNING and PAUSED (R54). -/
inductive Run where
  | idle
  | running (value : Int) (prog : Progress)
  | paused (value : Int) (prog : Progress)
  deriving DecidableEq, Repr

/-- Where the answer of a pending operation goes (R6). -/
structure Marker where
  port : PortId
  slot : SlotId
  deriving DecidableEq, Repr

/-- The state of a lane that is not VACANT, with the fields present in that state alone (R2, R6, R93): the IDENT marker in
DEFINING, the held value and the profile's run in ACTIVE (R45, R55), the stop cause in STOPPING, and in TRIPPED the trip
fields and the CLEAR marker. -/
inductive Mode where
  | defining (marker : Marker)
  | standby
  | active (held : Option Int) (run : Run)
  | stopping (cause : StopCause)
  | tripped (cause : TripCause) (code : Nat) (resolved : Bool) (clear : Option Marker)
  deriving DecidableEq, Repr

/-- A claim (R117). -/
structure Claim where
  port : PortId
  key  : Half
  deriving DecidableEq, Repr

/-- A present drive view (R174). -/
structure DriveView where
  state    : DriveState
  atRef    : Bool
  tripCode : Nat
  feedback : Int
  deriving DecidableEq, Repr

/-- The record of a lane that is not VACANT. -/
structure Lane where
  cfg       : LaneCfg
  pinned    : Bool
  driveType : Option Byte
  source    : Source
  setPoint  : Int
  output    : Int
  track     : Track
  queue     : List Segment
  claim     : Option Claim
  view      : Option DriveView
  misses    : Nat
  mode      : Mode
  /-- The update timer: stopped, or the ticks left to its expiry (R26). -/
  timer     : Option Nat
  deriving DecidableEq, Repr

/-! ## The ports (chapter 7), their leases (chapter 6) and attention sets (chapter 9) -/

/-- The result codes (chapter 10, Result codes). -/
inductive Result where
  | ok
  | unknownRequest
  | badField
  | badLane
  | noLane
  | barred
  | owned
  | key
  | laneBusy
  | badState
  | halted
  | pinned
  | addressTaken
  | cycle
  | depth
  | hasFollowers
  | queueFull
  | poolFull
  | noDrive
  | driveFault
  | stillTripped
  deriving DecidableEq, Repr

/-- The fields of a good request frame (R140). -/
structure Request where
  seq     : Byte
  code    : Byte
  lane    : Byte
  key     : Half
  payload : List Byte
  crc     : Half
  deriving DecidableEq, Repr

/-- The fields of a response (R141). -/
structure Response where
  seq       : Byte
  code      : Byte
  result    : Result
  lapsed    : Bool
  duplicate : Bool
  payload   : List Byte
  deriving DecidableEq, Repr

/-- A slot (chapter 7, section 7.4). The flag beside a request is its lapsed flag, decided when it took the slot (R141). -/
inductive Slot where
  | free
  | queued (req : Request) (lapsed : Bool)
  | executing (req : Request) (lapsed : Bool)
  | answered (resp : Response)
  deriving DecidableEq, Repr

/-- The copy of a response (R150). -/
structure Copy where
  result  : Result
  payload : List Byte
  deriving DecidableEq, Repr

/-- A duplicate store that is not empty (R150). The slot says which frame it names until that frame is answered (log 10). -/
structure DupStore where
  seq  : Byte
  crc  : Half
  slot : SlotId
  copy : Option Copy
  deriving DecidableEq, Repr

/-- The entries of one lane in one attention set (R182). -/
structure LaneAttn where
  segmentDone  : Option (Byte × Bool)
  profileEmpty : Bool
  locked       : Bool
  stopped      : Bool
  tripped      : Option (TripCause × Nat)
  resumed      : Bool
  linkLost     : Bool
  claimDropped : Bool
  deriving DecidableEq, Repr

/-- No entry. -/
def LaneAttn.empty : LaneAttn :=
  { segmentDone := none, profileEmpty := false, locked := false, stopped := false, tripped := none, resumed := false
    linkLost := false, claimDropped := false }

/-- An attention set: at most one entry for each lane and lane kind and for each port kind (R182), by its type. -/
structure AttnSet where
  lapsed  : Bool
  overrun : Bool
  lanes   : Vector LaneAttn 24
  deriving DecidableEq, Repr

/-- The empty attention set. -/
def AttnSet.empty : AttnSet :=
  { lapsed := false, overrun := false, lanes := Vector.replicate 24 LaneAttn.empty }

/-- A port's lease (R126). -/
structure Lease where
  period : Nat
  lapsed : Bool
  /-- Stopped, or the ticks left to its expiry. -/
  timer  : Option Nat
  deriving DecidableEq, Repr

/-- What each port holds. -/
structure Port where
  slots   : Vector Slot 4
  order   : List SlotId
  dup     : Option DupStore
  discard : List LaneId
  strikes : Nat
  barred  : Bool
  lease   : Lease
  attn    : AttnSet
  /-- Bit k is 1 when attention kind k is enabled (R188). -/
  mask    : BitVec 10
  deriving DecidableEq, Repr

/-- A port at power-on (R160, R139, R191). -/
def Port.reset : Port :=
  { slots := Vector.replicate 4 Slot.free, order := [], dup := none, discard := [], strikes := 0, barred := false
    lease := { period := 0, lapsed := false, timer := none }, attn := AttnSet.empty, mask := BitVec.allOnes 10 }

/-- The port U receiver's framer: HUNT, or RECEIVING with the bytes of the frame so far (R145). -/
inductive Framer where
  | hunt
  | receiving (bytes : List Byte)
  deriving DecidableEq, Repr

/-- What port S is doing between an assertion of CS_N and its deassertion (R142): waiting for the command byte; receiving the bytes of a
request frame (R143); shifting out what it fixed at a read-response command, with the slot whose response that is, and the bytes still to
go (R144); or ignoring the rest. -/
inductive SpiPhase where
  | command
  | writing (got : List Byte)
  | reading (slot : Option SlotId) (left : List Byte)
  | ignoring
  deriving DecidableEq, Repr

/-- The port S transaction (R142): none while CS_N is deasserted, or its phase and the bits of the byte now being received, first bit
first. -/
inductive Spi where
  | deselected
  | selected (phase : SpiPhase) (bits : List Bool)
  deriving DecidableEq, Repr

/-- The port U transmitter (R147): idle; sending a slot's response, with the characters from the one in progress on; or, after a break,
finishing the character in progress (R146). -/
inductive Transmitter where
  | idle
  | sending (slot : SlotId) (chars : List Byte)
  | stopping (char : Byte)
  deriving DecidableEq, Repr

/-- What the ports' pins do that no row of the table names (log 6). -/
inductive LineEvent where
  /-- CS_N is asserted. -/
  | csAssert
  /-- One SCK pulse: MOSI is sampled at its rising edge, and MISO takes its next bit at its falling edge (R142). -/
  | sck (mosi : Bool)
  /-- CS_N is deasserted. -/
  | csDeassert
  /-- URX returns to the high level (R146). -/
  | urxHigh
  /-- The stop bit of a character that is not the last of its response has been sent on UTX (R147), or of the character that a break let
  end (R146). -/
  | utxCharacter
  deriving DecidableEq, Repr

/-! ## The drive link (chapter 8) -/

/-- The kind of a pending entry or of a transaction; an IDENT has its try number (R163, R164). -/
inductive FrameKind where
  | ref
  | ident (try' : Nat)
  | clear
  deriving DecidableEq, Repr

/-- An entry of the pending frame list (R164). -/
structure Entry where
  lane : LaneId
  kind : FrameKind
  deriving DecidableEq, Repr

/-- The transaction in flight (R163). -/
structure Txn where
  lane    : LaneId
  kind    : FrameKind
  address : Nat
  stale   : Bool
  deriving DecidableEq, Repr

/-- The drive link controller's state (R162), with the record that SENDING and AWAITING hold (R163), the characters of the
frame on DLTX, and whether the reply has begun (R170). -/
inductive Link where
  | idle
  | sending (txn : Txn) (chars : List Byte)
  | awaiting (txn : Txn) (begun : Bool)
  | guarding
  deriving DecidableEq, Repr

/-! ## The whole part -/

/-- Everything the part holds. -/
structure State where
  /-- The commands that are waiting, first in, first out. -/
  pending    : List Instr
  /-- The part is held in the RESET_N reset state (R1). -/
  held       : Bool
  /-- The filtered HALT level: asserted is true (R99). -/
  haltLevel  : Bool
  /-- The level of the HALT_N input at the last sample: asserted is true. -/
  haltPin    : Bool
  /-- Consecutive samples opposite to the filtered level (R99). -/
  haltRun    : Nat
  /-- The levels the input will show at the coming samples; past the last it keeps its level (log 4). -/
  haltIn     : List Bool
  /-- Ticks of the time base so far: the model's own, for the free order of one tick's events (log 3). -/
  ticks      : Nat
  /-- The lane table; none is VACANT (R2). -/
  lanes      : Vector (Option Lane) 24
  /-- The free count of the segment pool (R52). -/
  poolFree   : Nat
  portS      : Port
  portU      : Port
  /-- The port the arbiter served last (R151). -/
  lastServed : PortId
  framer     : Framer
  /-- The port U gap timer: stopped, or the ticks left to its expiry (R145). -/
  gapTimer   : Option Nat
  /-- URX has been low since a break was taken (R146). -/
  urxLow     : Bool
  /-- The port U transmitter (R147). -/
  uTx        : Transmitter
  /-- The port S transaction (R142). -/
  spi        : Spi
  /-- The whole bytes port S has shifted out on MISO in its present or last transaction (R144, R193). -/
  misoOut    : List Byte
  /-- What the ports' pins are going to do that no row names: inputs still to come, oldest first (log 6). -/
  lineIn     : List LineEvent
  /-- The strap levels that set the port U rate (R145). -/
  straps     : Straps
  link       : Link
  /-- The pending frame list, oldest first (R164). -/
  frames     : List Entry
  deriving DecidableEq, Repr

/-- The part right after power-on: R25, R49, R74, R92, R99, R116, R139, R160, R181, R191. The straps, the HALT_N input, CS_N and URX
are inputs, and their levels here are the model's choice (logs 4, 5, 6). -/
def State.reset : State :=
  { pending := [], held := false, haltLevel := false, haltPin := false, haltRun := 0, haltIn := [], ticks := 0
    lanes := Vector.replicate 24 none, poolFree := Config.poolSlots, portS := Port.reset, portU := Port.reset
    lastServed := .u, framer := .hunt, gapTimer := none, urxLow := false, uTx := .idle, spi := .deselected, misoOut := [], lineIn := []
    straps := { baud1 := false, baud0 := false }, link := .idle, frames := [] }

/-- Why the machine could stop with a fault. The spec names no event that stops the part, so no meaning raises one: the type
is inhabited only because a machine must name its faults. -/
inductive Fault where
  /-- Raised by no meaning: the spec gives every event of the table an effect in every state (log 1). Safe. -/
  | neverRaised
  deriving DecidableEq, Repr

/-- Why the machine could refuse a command. -/
inductive Refusal where
  /-- Raised by an arm of exec whose command has no meaning yet; there is no such arm. Safe. -/
  | notModelled (mnemonic : String)
  deriving DecidableEq, Repr

end Sys2Proof.Machine
end

