-- ==== Sys2Proof/Machine/Operands.lean ====
section
/-! DEFINITION. The operands: every byte layout of chapter 10, read (request frames and payloads, drive replies) and written
(responses, views, drive link frames), with both CRCs. -/

namespace Sys2Proof.Machine

/-! ## Fields (R192) -/

/-- Byte k of a string of bytes. -/
def byteAt (bs : List Byte) (k : Nat) : Byte := bs.getD k 0

/-- The unsigned two-byte field at byte k, most significant byte first (R192). -/
def u16At (bs : List Byte) (k : Nat) : Nat := (byteAt bs k).toNat * 256 + (byteAt bs (k + 1)).toNat

/-- The signed two-byte field at byte k (R192). -/
def s16At (bs : List Byte) (k : Nat) : Int := (BitVec.ofNat 16 (u16At bs k)).toInt

/-- A byte that holds a number. -/
def byteOf (n : Nat) : Byte := BitVec.ofNat 8 n

/-- A two-byte field, most significant byte first (R192). -/
def halfBytes (w : Half) : List Byte := [w.extractLsb' 8 8, w.extractLsb' 0 8]

/-- An unsigned two-byte field (R192). -/
def u16Bytes (n : Nat) : List Byte := halfBytes (BitVec.ofNat 16 n)

/-- A signed two-byte field, two's complement (R192). -/
def s16Bytes (x : Int) : List Byte := halfBytes (BitVec.ofInt 16 x)

/-- The range of a reference value, -30000 to +30000 ru (00_scope.md, Values and units). -/
def ruOk (x : Int) : Bool := decide (-30000 ≤ x) && decide (x ≤ 30000)

/-! ## The CRCs (R193, R194) -/

/-- Eight shifts of a CRC register. -/
def eightTimes {α : Type} (f : α → α) (x : α) : α := f (f (f (f (f (f (f (f x)))))))

/-- One shift of the port CRC register (R193 step 3). -/
def crc16Shift (r : Half) : Half := if r.msb then (r <<< 1) ^^^ 0x1021#16 else r <<< 1

/-- One byte into the port CRC register (R193 steps 2, 3). -/
def crc16Byte (r : Half) (b : Byte) : Half := eightTimes crc16Shift (r ^^^ (b ++ 0#8))

/-- The port CRC (R193). -/
def crc16 (bs : List Byte) : Half := bs.foldl crc16Byte 0xFFFF#16

/-- One shift of the link CRC register (R194 step 3). -/
def crc8Shift (r : Byte) : Byte := if r.msb then (r <<< 1) ^^^ 0x2F#8 else r <<< 1

/-- One character into the link CRC register (R194 steps 2, 3). -/
def crc8Byte (r b : Byte) : Byte := eightTimes crc8Shift (r ^^^ b)

/-- The link CRC (R194). -/
def crc8 (bs : List Byte) : Byte := bs.foldl crc8Byte 0xFF#8

/-! ## Codes (chapter 10, section 10.3) -/

/-- The request code of the engine's rows (Request codes and lengths). -/
def reqCode : Instr → Option Byte
  | .defineLane => some 0x10
  | .amendLane => some 0x11
  | .pinLane => some 0x12
  | .retireLane => some 0x13
  | .readLane => some 0x14
  | .findDrive => some 0x15
  | .listLanes => some 0x16
  | .start => some 0x20
  | .stop => some 0x21
  | .hold => some 0x22
  | .resume => some 0x23
  | .setPoint => some 0x24
  | .setSource => some 0x25
  | .setRatio => some 0x26
  | .clearTrip => some 0x27
  | .appendSegment => some 0x30
  | .runProfile => some 0x31
  | .pauseProfile => some 0x32
  | .flushProfile => some 0x33
  | .readProfile => some 0x34
  | .claim => some 0x40
  | .release => some 0x41
  | .setLease => some 0x42
  | .setAttentionMask => some 0x50
  | .readAttention => some 0x51
  | .ackAttention => some 0x52
  | .readDevice => some 0x53
  | .nop => some 0x54
  | .powerOn _ => none
  | .resetNAssertion _ => none
  | .resetNRelease => none
  | .haltAssertion => none
  | .haltRelease => none
  | .goodFrame _ _ => none
  | .frameDiscard _ _ => none
  | .writeAborted _ => none
  | .framingError => none
  | .gapTimerExpiry => none
  | .portReset _ => none
  | .readResponse _ => none
  | .responseSendStart => none
  | .responseTransmitted => none
  | .unknownRequest => none
  | .laneUpdate _ => none
  | .leaseExpiry _ => none
  | .transactionStart => none
  | .linkFrameSent => none
  | .driveReply _ => none
  | .replyWindowTimeout => none
  | .replyBroken => none
  | .guardEnd => none
  | .receivedCharacter _ => none
  | .replyBegun => none

/-- The row that the engine executes for a request code: UNKNOWN_REQUEST for a code that is not one of the 28 (R153 step 1). -/
def rowOfCode (c : Byte) : Instr :=
  match c.toNat with
  | 0x10 => .defineLane
  | 0x11 => .amendLane
  | 0x12 => .pinLane
  | 0x13 => .retireLane
  | 0x14 => .readLane
  | 0x15 => .findDrive
  | 0x16 => .listLanes
  | 0x20 => .start
  | 0x21 => .stop
  | 0x22 => .hold
  | 0x23 => .resume
  | 0x24 => .setPoint
  | 0x25 => .setSource
  | 0x26 => .setRatio
  | 0x27 => .clearTrip
  | 0x30 => .appendSegment
  | 0x31 => .runProfile
  | 0x32 => .pauseProfile
  | 0x33 => .flushProfile
  | 0x34 => .readProfile
  | 0x40 => .claim
  | 0x41 => .release
  | 0x42 => .setLease
  | 0x50 => .setAttentionMask
  | 0x51 => .readAttention
  | 0x52 => .ackAttention
  | 0x53 => .readDevice
  | 0x54 => .nop
  | _ => .unknownRequest

/-- The code of a result (Result codes). -/
def Result.code : Result → Nat
  | .ok => 0
  | .unknownRequest => 1
  | .badField => 2
  | .badLane => 3
  | .noLane => 4
  | .barred => 5
  | .owned => 6
  | .key => 7
  | .laneBusy => 8
  | .badState => 9
  | .halted => 10
  | .pinned => 11
  | .addressTaken => 12
  | .cycle => 13
  | .depth => 14
  | .hasFollowers => 15
  | .queueFull => 16
  | .poolFull => 17
  | .noDrive => 18
  | .driveFault => 19
  | .stillTripped => 20

/-- Codes of the value-code table. -/
def portCode : PortId → Nat
  | .s => 0
  | .u => 1

/-- Track mode code. -/
def Track.code : Track → Nat
  | .blending => 0
  | .locked => 1

/-- Fallback action code. -/
def Fallback.code : Fallback → Nat
  | .hold => 0
  | .stop => 1
  | .release => 2

/-- Follow basis code. -/
def Basis.code : Basis → Nat
  | .output => 0
  | .feedback => 1

/-- Stop cause code; 0 is none. -/
def StopCause.code : StopCause → Nat
  | .command => 1
  | .halt => 2
  | .lapse => 3

/-- Trip cause code; 0 is none. -/
def TripCause.code : TripCause → Nat
  | .drive => 1
  | .link => 2
  | .cascade => 3

/-- Drive state code. -/
def DriveState.code : DriveState → Nat
  | .ready => 0
  | .run => 1
  | .trip => 2

/-- Lane state code. -/
def Mode.code : Mode → Nat
  | .defining _ => 1
  | .standby => 2
  | .active _ _ => 3
  | .stopping _ => 4
  | .tripped _ _ _ _ => 5

/-- Lane state code of a record, 0 for VACANT. -/
def stateCode (l : Option Lane) : Nat :=
  match l with
  | none => 0
  | some l => l.mode.code

/-- Profile run state code. -/
def Run.code : Run → Nat
  | .idle => 0
  | .running _ _ => 1
  | .paused _ _ => 2

/-! ## Request frames (R140, R193) -/

/-- The request in a string of bytes, if the payload length is at most 32, the bytes hold the whole frame and its CRC matches
(R140). Bytes after the complete frame are ignored (R143). -/
def parseFrame (bs : List Byte) : Option Request :=
  let n := (byteAt bs 5).toNat
  let body := bs.take (6 + n)
  if n ≤ 32 && decide (8 + n ≤ bs.length) && crc16 body == BitVec.ofNat 16 (u16At bs (6 + n)) then
    some { seq := byteAt bs 0, code := byteAt bs 1, lane := byteAt bs 2, key := BitVec.ofNat 16 (u16At bs 3)
           payload := (bs.drop 6).take n, crc := BitVec.ofNat 16 (u16At bs (6 + n)) }
  else none

/-- The bytes of a request frame with these fields, its CRC computed (R140, R193). -/
def frameBytes (seq code lane : Byte) (key : Half) (payload : List Byte) : List Byte :=
  let body := seq :: code :: lane :: (halfBytes key ++ byteOf payload.length :: payload)
  body ++ halfBytes (crc16 body)

/-- The bytes of a response frame (chapter 10, Response frame). -/
def responseBytes (r : Response) : List Byte :=
  let body := r.seq :: r.code :: byteOf r.result.code :: byteOf (r.lapsed.toNat + 2 * r.duplicate.toNat)
    :: byteOf r.payload.length :: r.payload
  body ++ halfBytes (crc16 body)

/-- The lane index in a lane field or a parent byte, if it is 0 to 23. -/
def laneOf (b : Byte) : Option LaneId := if h : b.toNat < 24 then some ⟨b.toNat, h⟩ else none

/-! ## Request payloads (chapter 10, section 10.4) -/

/-- An update period code, 0 to 5 (R192). -/
def periodOf (n : Nat) : Option (Fin 6) := if h : n < 6 then some ⟨n, h⟩ else none

/-- A fallback code; 3 is none (section 10.4, options). -/
def fallbackOf (n : Nat) : Option Fallback :=
  match n with
  | 0 => some .hold
  | 1 => some .stop
  | 2 => some .release
  | _ => none

/-- A follow basis code. -/
def basisOf (n : Nat) : Option Basis :=
  match n with
  | 0 => some .output
  | 1 => some .feedback
  | _ => none

/-- The ranges and the two consistency conditions of R3. -/
def cfgOk (c : LaneCfg) : Bool :=
  decide (1 ≤ c.address) && decide (c.address ≤ 31)
  && ruOk c.lowLimit && ruOk c.highLimit && decide (c.lowLimit ≤ c.highLimit)
  && decide (1 ≤ c.slewStep) && decide (c.slewStep ≤ 30000)
  && decide (1 ≤ c.blendStep) && decide (c.blendStep ≤ c.slewStep)
  && decide (1 ≤ c.stopStep) && decide (c.stopStep ≤ 30000)

/-- The range of a ratio (R75). -/
def ratioOk (n : Nat) : Bool := decide (n ≤ 16383)

/-- The range of a trim (R75). -/
def trimOk (x : Int) : Bool := decide (-3000 ≤ x) && decide (x ≤ 3000)

/-- The follow fields of a payload: parent, ratio, trim and basis one after the other from byte k. -/
def followLinkAt (pl : List Byte) (k : Nat) : Option FollowLink :=
  match laneOf (byteAt pl k), basisOf (byteAt pl (k + 5)).toNat with
  | some p, some b =>
    if ratioOk (u16At pl (k + 1)) && trimOk (s16At pl (k + 3)) then
      some { parent := p, ratio := u16At pl (k + 1), trim := s16At pl (k + 3), basis := b }
    else none
  | _, _ => none

/-- A source kind byte with the follow fields from byte k, which FIXED ignores (R9, R42). -/
def sourceAt (kind : Byte) (pl : List Byte) (k : Nat) : Option Source :=
  match kind.toNat with
  | 0 => some .fixed
  | 1 => (followLinkAt pl k).map .follow
  | _ => none

/-- The configuration of a DEFINE_LANE payload, before the range checks. -/
def defineCfg (pl : List Byte) : Option LaneCfg :=
  match periodOf ((byteAt pl 0).toNat / 32), fallbackOf ((byteAt pl 11).toNat / 4 % 4) with
  | some p, some f =>
    some { address := (byteAt pl 0).toNat % 32, periodCode := p, lowLimit := s16At pl 1, highLimit := s16At pl 3
           slewStep := u16At pl 5, blendStep := u16At pl 7, stopStep := u16At pl 9
           autoResume := (byteAt pl 11).getLsbD 0, coupled := (byteAt pl 11).getLsbD 1, fallback := f }
  | _, _ => none

/-- The presence mask of an AMEND_LANE payload. -/
def amendMask (pl : List Byte) : Half := BitVec.ofNat 16 (u16At pl 0)

/-- The configuration as it stands after an AMEND_LANE, before the range checks; a field not named keeps its value and is not
read (R15, R192). -/
def amendCfg (pl : List Byte) (c : LaneCfg) : Option LaneCfg :=
  let m := amendMask pl
  match (if m.getLsbD 1 then periodOf ((byteAt pl 2).toNat / 32) else some c.periodCode),
        (if m.getLsbD 8 then fallbackOf ((byteAt pl 13).toNat / 4 % 4) else some c.fallback) with
  | some p, some f =>
    some { address := if m.getLsbD 0 then (byteAt pl 2).toNat % 32 else c.address
           periodCode := p
           lowLimit := if m.getLsbD 2 then s16At pl 3 else c.lowLimit
           highLimit := if m.getLsbD 3 then s16At pl 5 else c.highLimit
           slewStep := if m.getLsbD 4 then u16At pl 7 else c.slewStep
           blendStep := if m.getLsbD 5 then u16At pl 9 else c.blendStep
           stopStep := if m.getLsbD 6 then u16At pl 11 else c.stopStep
           autoResume := if m.getLsbD 7 then (byteAt pl 13).getLsbD 0 else c.autoResume
           coupled := if m.getLsbD 9 then (byteAt pl 13).getLsbD 1 else c.coupled
           fallback := f }
  | _, _ => none

/-- The mask names a pinned field: any but auto resume (R16). -/
def namesPinned (m : Half) : Bool := m &&& 0x37F#16 != 0#16

/-- The segment of an APPEND_SEGMENT payload, if its fields are in range (R51, R56). -/
def segmentOf (pl : List Byte) : Option Segment :=
  let tail (b : SegBody) : Option Segment :=
    if decide ((byteAt pl 9).toNat ≤ 1) then some { body := b, notify := (byteAt pl 9).toNat == 1, tag := byteAt pl 10 } else none
  match (byteAt pl 0).toNat with
  | 0 =>
    if ruOk (s16At pl 1) && decide (1 ≤ u16At pl 3) && decide (u16At pl 3 ≤ 30000) && decide (u16At pl 5 ≤ 4095) then
      tail (.ramp (s16At pl 1) (u16At pl 3) (u16At pl 5))
    else none
  | 1 => if decide (1 ≤ u16At pl 7) then tail (.dwell (u16At pl 7)) else none
  | _ => none

/-! ## Views (chapter 10, section 10.5) -/

/-- Stop cause, trip cause, resolved flag and pending operation: byte 25 of the READ_LANE view. -/
def Mode.causeByte : Mode → Nat
  | .defining m => 32 + 128 * portCode m.port
  | .standby => 0
  | .active _ _ => 0
  | .stopping c => c.code
  | .tripped c _ r none => 4 * c.code + 16 * r.toNat
  | .tripped c _ r (some m) => 4 * c.code + 16 * r.toNat + 64 + 128 * portCode m.port

/-- The lane's trip code; 0 outside TRIPPED. -/
def Mode.tripCode : Mode → Nat
  | .tripped _ k _ _ => k
  | .defining _ => 0
  | .standby => 0
  | .active _ _ => 0
  | .stopping _ => 0

/-- The held value, present only in ACTIVE (R45). -/
def Mode.held : Mode → Option Int
  | .active h _ => h
  | .defining _ => none
  | .standby => none
  | .stopping _ => none
  | .tripped _ _ _ _ => none

/-- The profile's run: IDLE in every state but ACTIVE (R54, R55). -/
def Mode.run : Mode → Run
  | .active _ r => r
  | .defining _ => .idle
  | .standby => .idle
  | .stopping _ => .idle
  | .tripped _ _ _ _ => .idle

/-- The follow link, if the base source is FOLLOW. -/
def Source.link : Source → Option FollowLink
  | .fixed => none
  | .follow k => some k

/-- The 32 bytes of the READ_LANE view of a record that is not VACANT. -/
def laneView (i : LaneId) (l : Lane) (depth followers : Nat) : List Byte :=
  let lk : FollowLink := l.source.link.getD { parent := 0, ratio := 0, trim := 0, basis := .output }
  let follow := l.source.link.isSome.toNat
  let v : DriveView := l.view.getD { state := .ready, atRef := false, tripCode := 0, feedback := 0 }
  [byteOf (l.mode.code + 8 * l.pinned.toNat + 16 * l.track.code + 32 * l.mode.held.isSome.toNat + 64 * follow
      + 128 * lk.basis.code),
    byteOf (l.cfg.address + 32 * l.cfg.periodCode.val),
    l.driveType.getD 0]
  ++ s16Bytes l.cfg.lowLimit ++ s16Bytes l.cfg.highLimit ++ u16Bytes l.cfg.slewStep ++ u16Bytes l.cfg.blendStep
  ++ u16Bytes l.cfg.stopStep
  ++ [byteOf (l.cfg.autoResume.toNat + 2 * l.cfg.coupled.toNat + 4 * l.cfg.fallback.code + 16 * l.claim.isSome.toNat
      + 32 * (l.claim.map fun c => portCode c.port).getD 0 + 64 * l.misses)]
  ++ s16Bytes l.setPoint
  ++ [byteOf lk.parent.val] ++ u16Bytes lk.ratio ++ s16Bytes lk.trim
  ++ s16Bytes l.output ++ s16Bytes (l.mode.held.getD 0)
  ++ [byteOf l.mode.causeByte,
      byteOf (l.mode.tripCode + 64 * l.view.isSome.toNat + 128 * v.atRef.toNat),
      byteOf (v.tripCode + 64 * v.state.code)]
  ++ s16Bytes v.feedback
  ++ [byteOf (depth + 8 * followers), byteOf i.val]

/-- The READ_LANE view of a VACANT lane: every byte 0 except the lane index. -/
def vacantView (i : LaneId) : List Byte := List.replicate 31 0 ++ [byteOf i.val]

/-- Head progress as READ_PROFILE reports it: 0 for not started. -/
def Progress.report : Progress → Nat
  | .notStarted => 0
  | .rate r => r
  | .count n => n

/-- Head progress and profile value as READ_PROFILE reports them: 0 when IDLE. -/
def Run.report : Run → Nat × Int
  | .idle => (0, 0)
  | .running v p => (p.report, v)
  | .paused v p => (p.report, v)

/-- The kind code of a segment. -/
def Segment.kindCode (g : Segment) : Nat :=
  match g.body with
  | .ramp _ _ _ => 0
  | .dwell _ => 1

/-- The accel of a segment, 0 for a DWELL. -/
def Segment.accel (g : Segment) : Nat :=
  match g.body with
  | .ramp _ _ a => a
  | .dwell _ => 0

/-- The 6-byte entry of a segment in READ_PROFILE. -/
def Segment.entry (g : Segment) : List Byte :=
  (match g.body with
    | .ramp e p _ => s16Bytes e ++ u16Bytes (p + 32768 * g.notify.toNat)
    | .dwell n => u16Bytes n ++ u16Bytes (32768 * g.notify.toNat))
  ++ [g.tag, byteOf (g.accel % 256)]

/-- The accel high bits of the returned segments, four bits each, the first lowest. -/
def accelHigh : List Segment → Nat
  | [] => 0
  | g :: gs => g.accel / 256 + 16 * accelHigh gs

/-- The READ_PROFILE payload: up to four segments from a start position (R70). The head kind of an empty queue is absent and
sent as 0 (R192, log 13). -/
def profileView (l : Lane) (poolFree start : Nat) : List Byte :=
  let run := l.mode.run
  let gs := (l.queue.drop start).take 4
  [byteOf (run.code + 4 * (l.queue.head?.map Segment.kindCode).getD 0 + 8 * l.queue.length), byteOf poolFree]
  ++ u16Bytes run.report.1 ++ s16Bytes run.report.2 ++ u16Bytes (accelHigh gs)
  ++ gs.flatMap Segment.entry

/-- The READ_DEVICE bytes of one port. -/
def Port.deviceBytes (p : Port) : List Byte :=
  [byteOf (p.lease.lapsed.toNat + 2 * p.barred.toNat + 4 * p.strikes), byteOf p.lease.period]

/-! ## Drive link frames (R194) -/

/-- A frame on the drive link: address, form, the value's bytes if any, CRC (R194). -/
def linkChars (address : Nat) (form : Byte) (value : List Byte) : List Byte :=
  let body := byteOf address :: form :: value
  body ++ [crc8 body]

/-- The characters that a reply to a frame of this kind is counted to (R170). -/
def FrameKind.replyLength : FrameKind → Nat
  | .ref => 8
  | .ident _ => 9
  | .clear => 8

/-- The form code that a reply to a frame of this kind must carry (R171, R194). -/
def FrameKind.replyForm : FrameKind → Byte
  | .ref => 0x70
  | .ident _ => 0x71
  | .clear => 0x70

/-- A valid reply: its status fields, and the drive type that an IDENT reply carries (R171). -/
structure Reply where
  view      : DriveView
  driveType : Byte
  deriving DecidableEq, Repr

/-- A drive state byte (R194). -/
def driveStateOf (n : Nat) : Option DriveState :=
  match n with
  | 0 => some .ready
  | 1 => some .run
  | 2 => some .trip
  | _ => none

/-- The trip code fits the drive state: 1 to 63 with TRIP, 0 with READY or RUN (R171). -/
def tripCodeOk (d : DriveState) (code : Nat) : Bool :=
  match d with
  | .trip => decide (1 ≤ code) && decide (code ≤ 63)
  | .ready => code == 0
  | .run => code == 0

/-- The reply in the characters received, if it is valid against the transaction's record (R171). Characters after the last
counted one are not part of it (R170). -/
def validReply (t : Txn) (chars : List Byte) : Option Reply :=
  let n := t.kind.replyLength
  if decide (n ≤ chars.length) && crc8 (chars.take (n - 1)) == byteAt chars (n - 1)
      && byteAt chars 0 == byteOf t.address && byteAt chars 1 == t.kind.replyForm then
    match driveStateOf (byteAt chars 2).toNat with
    | none => none
    | some d =>
      if tripCodeOk d (byteAt chars 4).toNat && ruOk (s16At chars 5) then
        some { view := { state := d, atRef := (byteAt chars 3).getLsbD 0, tripCode := (byteAt chars 4).toNat
                         feedback := s16At chars 5 }
               driveType := byteAt chars 7 }
      else none
  else none

end Sys2Proof.Machine
end

