-- ==== Sys2Proof/Machine/Flags.lean ====
section
/-! DEFINITION. The attention unit (chapter 9): reports, masks and sets, and the output pins that are computed from State. -/

namespace Sys2Proof.Machine

/-! ## Kinds and reports (R182, R184) -/

/-- A report of a lane kind, with the detail given (R182). -/
inductive LaneReport where
  | segmentDone (tag : Byte)
  | profileEmpty
  | locked
  | stopped
  | tripped (cause : TripCause) (code : Nat)
  | resumed
  | linkLost
  | claimDropped
  deriving DecidableEq, Repr

/-- The attention kind code of a report (chapter 10, Value codes). -/
def LaneReport.kind : LaneReport → Nat
  | .segmentDone _ => 0
  | .profileEmpty => 1
  | .locked => 2
  | .stopped => 3
  | .tripped _ _ => 4
  | .resumed => 5
  | .linkLost => 6
  | .claimDropped => 7

/-- The kind code of LAPSED. -/
def kindLapsed : Nat := 8

/-- The kind code of OVERRUN. -/
def kindOverrun : Nat := 9

/-- A set that takes a report: a new entry, or a refresh of the one present (R184). -/
def LaneAttn.take (a : LaneAttn) : LaneReport → LaneAttn
  | .segmentDone tag => { a with segmentDone := some (tag, a.segmentDone.isSome) }
  | .profileEmpty => { a with profileEmpty := true }
  | .locked => { a with locked := true }
  | .stopped => { a with stopped := true }
  | .tripped c k => { a with tripped := some (c, k) }
  | .resumed => { a with resumed := true }
  | .linkLost => { a with linkLost := true }
  | .claimDropped => { a with claimDropped := true }

/-- Keep the entries whose kinds a mask enables (R188). -/
def LaneAttn.keep (m : BitVec 10) (a : LaneAttn) : LaneAttn :=
  { segmentDone := if m.getLsbD 0 then a.segmentDone else none
    profileEmpty := m.getLsbD 1 && a.profileEmpty
    locked := m.getLsbD 2 && a.locked
    stopped := m.getLsbD 3 && a.stopped
    tripped := if m.getLsbD 4 then a.tripped else none
    resumed := m.getLsbD 5 && a.resumed
    linkLost := m.getLsbD 6 && a.linkLost
    claimDropped := m.getLsbD 7 && a.claimDropped }

/-- Remove the entry of one lane kind (R187): a mask with that kind alone masked. -/
def LaneAttn.remove (kind : Nat) (a : LaneAttn) : LaneAttn := a.keep (~~~ (1#10 <<< kind))

/-- One entry as READ_ATTENTION gives it, if present: lane byte, kind and flags byte, detail byte. -/
def entryBytes (present : Bool) (lane kind detail : Nat) : List (List Byte) :=
  if present then [[byteOf lane, byteOf kind, byteOf detail]] else []

/-- The entries of one lane in the kind order of R182, as READ_ATTENTION gives them (R186). -/
def LaneAttn.entries (i : Nat) (a : LaneAttn) : List (List Byte) :=
  entryBytes a.segmentDone.isSome i (16 * (a.segmentDone.map (·.2.toNat)).getD 0) ((a.segmentDone.map (·.1.toNat)).getD 0)
  ++ entryBytes a.profileEmpty i 1 0
  ++ entryBytes a.locked i 2 0
  ++ entryBytes a.stopped i 3 0
  ++ entryBytes a.tripped.isSome i (4 + 32 * (a.tripped.map (·.1.code)).getD 0) ((a.tripped.map (·.2)).getD 0)
  ++ entryBytes a.resumed i 5 0
  ++ entryBytes a.linkLost i 6 0
  ++ entryBytes a.claimDropped i 7 0

/-! ## Sets -/

/-- Every lane index, ascending. -/
def allLanes : List LaneId :=
  [0, 1, 2, 3, 4, 5, 6, 7, 8, 9, 10, 11, 12, 13, 14, 15, 16, 17, 18, 19, 20, 21, 22, 23]

/-- Rewrite one lane's entries. -/
def AttnSet.onLane (a : AttnSet) (i : LaneId) (f : LaneAttn → LaneAttn) : AttnSet :=
  { a with lanes := a.lanes.set i (f a.lanes[i]) }

/-- The entries of a set in the order of R186: port entries, then lanes ascending. -/
def AttnSet.entries (a : AttnSet) : List (List Byte) :=
  entryBytes a.lapsed 255 kindLapsed 0 ++ entryBytes a.overrun 255 kindOverrun 0
  ++ allLanes.flatMap fun i => a.lanes[i].entries i.val

/-- The count of entries in a set. -/
def AttnSet.count (a : AttnSet) : Nat := a.entries.length

/-- Keep the entries whose kinds a mask enables (R188). -/
def AttnSet.keep (m : BitVec 10) (a : AttnSet) : AttnSet :=
  { lapsed := m.getLsbD kindLapsed && a.lapsed
    overrun := m.getLsbD kindOverrun && a.overrun
    lanes := ⟨(a.lanes.toList.map (LaneAttn.keep m)).toArray, by simp⟩ }

/-! ## A port's set (R183) -/

/-- A lane report reaches a port: its mask decides, then its set takes the report (R183, R184). -/
def Port.takeLane (p : Port) (i : LaneId) (r : LaneReport) : Port :=
  if p.mask.getLsbD r.kind then { p with attn := p.attn.onLane i (·.take r) } else p

/-- A LAPSED report reaches a port (R129, R183). -/
def Port.takeLapsed (p : Port) : Port :=
  if p.mask.getLsbD kindLapsed then { p with attn := { p.attn with lapsed := true } } else p

/-- An OVERRUN report reaches a port (R148, R183). -/
def Port.takeOverrun (p : Port) : Port :=
  if p.mask.getLsbD kindOverrun then { p with attn := { p.attn with overrun := true } } else p

/-- Every entry of a lane leaves a port's set (R189). -/
def Port.dropLane (p : Port) (i : LaneId) : Port := { p with attn := p.attn.onLane i fun _ => LaneAttn.empty }

/-- An ACK_ATTENTION pair names a kind that exists, with the lane value its kind needs (R187). -/
def pairOk (lane kind : Byte) : Bool :=
  (decide (kind.toNat < 8) && decide (lane.toNat < 24))
  || ((kind.toNat == kindLapsed || kind.toNat == kindOverrun) && lane.toNat == 255)

/-- Remove the entry that one pair names, if present (R187). -/
def AttnSet.ack (a : AttnSet) (lane kind : Byte) : AttnSet :=
  if kind.toNat == kindLapsed then { a with lapsed := false }
  else if kind.toNat == kindOverrun then { a with overrun := false }
  else match laneOf lane with
    | some i => a.onLane i (·.remove kind.toNat)
    | none => a

/-- The pairs of an ACK_ATTENTION payload. -/
def ackPairs : List Byte → List (Byte × Byte)
  | l :: k :: rest => (l, k) :: ackPairs rest
  | _ => []

/-! ## Output pins -/

/-- The attention output of a port is asserted while its set holds an entry (R185). -/
def Port.attnAsserted (p : Port) : Bool := p.attn.count != 0

/-- The levels of one character on a serial line, a bit time each: start bit low, 8 data bits least significant first, stop bit high
(R145, R162; log 19). -/
def charBits (b : Byte) : List Bool := false :: (List.range 8).map b.getLsbD ++ [true]

/-- The level of a serial line a number of bit times after the start of these characters; high after the last (R162, log 19). -/
def levelAt (chars : List Byte) (n : Nat) : Bool := (chars.flatMap charBits).getD n true

/-- DLDE is asserted from a frame's first start bit to its last stop bit (R162). -/
def State.dlde (s : State) : Bool :=
  match s.link with
  | .sending _ _ => true
  | .idle => false
  | .awaiting _ _ => false
  | .guarding => false

/-- The level of DLTX, high is true: while a frame is sent, the level that many bit times after the frame's first start bit began; at
every other time the high level (R1, R162, R181). -/
def State.dltx (s : State) (bitTimes : Nat) : Bool :=
  match s.link with
  | .sending _ chars => levelAt chars bitTimes
  | .idle => true
  | .awaiting _ _ => true
  | .guarding => true

/-- The level of UTX, that many bit times after the character in progress began (R145, R147; an idle line is high, log 19). -/
def State.utx (s : State) (bitTimes : Nat) : Bool :=
  match s.uTx with
  | .sending _ chars => levelAt chars bitTimes
  | .stopping char => levelAt [char] bitTimes
  | .idle => true

end Sys2Proof.Machine
end

