-- ==== Sys2Proof/Machine/Ops.lean ====
section
/-! DEFINITION. The shared operations: the one way to read and write a lane record (with the pool's accounting), a port, the
pending frame list; the derived values of the follow chains; the arbiter, the request engine and its check order; what a good
frame does at a port. -/

namespace Sys2Proof.Machine

/-! ## Lanes and the pool -/

/-- The record of a lane; none is VACANT. -/
def State.lane (s : State) (i : LaneId) : Option Lane := s.lanes[i]

/-- Segments held by a record's queue; a VACANT lane holds none (R2). -/
def queueLen (o : Option Lane) : Nat :=
  match o with
  | none => 0
  | some l => l.queue.length

/-- Write a lane record. Every segment that joins or leaves the queue takes or returns its slot in this event (R52). -/
def State.putLane (s : State) (i : LaneId) (o : Option Lane) : State :=
  { s with lanes := s.lanes.set i o, poolFree := s.poolFree + queueLen (s.lane i) - queueLen o }

/-- The ticks of an update period (R26, R192). -/
def LaneCfg.periodTicks (c : LaneCfg) : Nat := 2 ^ c.periodCode.val

/-! ## Ports -/

/-- A port. -/
def State.port (s : State) (p : PortId) : Port :=
  match p with
  | .s => s.portS
  | .u => s.portU

/-- Rewrite a port. -/
def State.modPort (s : State) (p : PortId) (f : Port → Port) : State :=
  match p with
  | .s => { s with portS := f s.portS }
  | .u => { s with portU := f s.portU }

/-- The other port. -/
def otherPort (p : PortId) : PortId :=
  match p with
  | .s => .u
  | .u => .s

/-- Report a lane kind: to the owner's set, or to both sets for an unowned lane (R118, R183). -/
def State.report (s : State) (i : LaneId) (r : LaneReport) : State :=
  match (s.lane i).bind Lane.claim with
  | some c => s.modPort c.port (·.takeLane i r)
  | none => (s.modPort .s (·.takeLane i r)).modPort .u (·.takeLane i r)

/-! ## The pending frame list (R164 to R167) -/

/-- Hand a REF entry for a lane: it joins the tail unless one is pending (R165). -/
def State.pushRef (s : State) (i : LaneId) : State :=
  if s.frames.contains { lane := i, kind := .ref } then s else { s with frames := s.frames ++ [{ lane := i, kind := .ref }] }

/-- A control entry joins the tail (R166). -/
def State.pushControl (s : State) (i : LaneId) (k : FrameKind) : State :=
  { s with frames := s.frames ++ [{ lane := i, kind := k }] }

/-- The transaction in flight becomes stale if it is this lane's (R163). -/
def Link.markStale (i : LaneId) : Link → Link
  | .sending t cs => .sending (if t.lane = i then { t with stale := true } else t) cs
  | .awaiting t b => .awaiting (if t.lane = i then { t with stale := true } else t) b
  | .idle => .idle
  | .guarding => .guarding

/-! ## Follow chains (R78, R79) -/

/-- The parent of a lane, if it is a FOLLOW lane. -/
def State.parentOf (s : State) (j : LaneId) : Option LaneId := ((s.lane j).bind (·.source.link)).map (·.parent)

/-- Depth, counted up at most the given number of links. -/
def State.depthUp (s : State) : Nat → LaneId → Nat
  | 0, _ => 0
  | n + 1, j =>
    match s.parentOf j with
    | some p => s.depthUp n p + 1
    | none => 0

/-- The depth of a lane (R78): no chain is longer than the table. -/
def State.depth (s : State) (j : LaneId) : Nat := s.depthUp 24 j

/-- Lane j is lane i or one of its descendants, looking up at most the given number of links. -/
def State.underUp (s : State) (i : LaneId) : Nat → LaneId → Bool
  | 0, j => j == i
  | n + 1, j =>
    j == i || match s.parentOf j with
      | some p => s.underUp i n p
      | none => false

/-- Lane j is lane i or one of its descendants (R78, R82). -/
def State.under (s : State) (i j : LaneId) : Bool := s.underUp i 24 j

/-- The followers of a lane, DEFINING lanes included (R78). -/
def State.followers (s : State) (i : LaneId) : List LaneId := allLanes.filter fun j => s.parentOf j == some i

/-- The follower count of a lane (R78). -/
def State.followerCount (s : State) (i : LaneId) : Nat := (s.followers i).length

/-- Height, counted down at most the given number of links. -/
def State.heightDown (s : State) : Nat → LaneId → Nat
  | 0, _ => 0
  | n + 1, i => (s.followers i).foldl (fun h j => max h (s.heightDown n j + 1)) 0

/-- The height of a lane (R78). -/
def State.height (s : State) (i : LaneId) : Nat := s.heightDown 24 i

/-- A lane other than this one that is not VACANT holds this drive address (R5). -/
def State.addressHeld (s : State) (i : LaneId) (address : Nat) : Bool :=
  allLanes.any fun j => j != i && match s.lane j with
    | some l => l.cfg.address == address
    | none => false

/-! ## Lane transitions shared by several events -/

/-- An ACTIVE lane enters STOPPING (R97): the profile is flushed, the held value goes with the mode, the track mode is BLENDING
(R36), the output is kept. -/
def Lane.enterStopping (c : StopCause) (l : Lane) : Lane := { l with mode := .stopping c, track := .blending, queue := [] }

/-- A lane takes HOLD (R44, R68), as a request or as a lapse fallback: an ACTIVE lane with no held value holds its output, and
a RUNNING profile becomes PAUSED. -/
def Lane.takeHold (l : Lane) : Lane :=
  match l.mode with
  | .active none run =>
    { l with mode := .active (some l.output) (match run with
        | .running v p => .paused v p
        | .paused v p => .paused v p
        | .idle => .idle) }
  | .active (some _) _ => l
  | .defining _ => l
  | .standby => l
  | .stopping _ => l
  | .tripped _ _ _ _ => l

/-- A lane becomes VACANT (R4): its record with its queue, claim, link, view and timer goes, and with it its pending entries, its
attention entries in both sets, and the currency of a transaction in flight for it (R163). -/
def State.enterVacant (s : State) (i : LaneId) : State :=
  let s := s.putLane i none
  let s := { s with frames := s.frames.filter (fun e => e.lane != i), link := s.link.markStale i }
  (s.modPort .s (·.dropLane i)).modPort .u (·.dropLane i)

/-- The timer value of a lease restart: stopped for period 0 (R126). -/
def leaseTicks (period : Nat) : Option Nat := if period = 0 then none else some (Config.leaseUnit * period)

/-- A frame takes a slot, or the port is reset: the lease is LIVE with its timer restarted (R127, R158). -/
def Lease.restart (l : Lease) : Lease := { l with lapsed := false, timer := leaseTicks l.period }

/-! ## Slots (chapter 7, section 7.4) -/

/-- Write a slot. -/
def Port.setSlot (p : Port) (k : SlotId) (x : Slot) : Port := { p with slots := p.slots.set k x }

/-- The slot is FREE. -/
def Slot.isFree : Slot → Bool
  | .free => true
  | .queued _ _ => false
  | .executing _ _ => false
  | .answered _ => false

/-- Every slot number, lowest first. -/
def allSlots : List SlotId := [0, 1, 2, 3]

/-- The lowest-numbered FREE slot (R148). -/
def Port.freeSlot (p : Port) : Option SlotId := allSlots.find? fun k => p.slots[k].isFree

/-- A frame takes a slot (R148 steps 3, 4): the slot joins the tail of the delivery order, with the lapsed flag if the port was
LAPSED, and the lease restarts (R127). -/
def Port.occupy (p : Port) (k : SlotId) (x : Bool → Slot) : Port :=
  { p.setSlot k (x p.lease.lapsed) with order := p.order ++ [k], lease := p.lease.restart }

/-- What the duplicate store says of a frame: none, not a duplicate; otherwise the copy it holds, if any (R150). -/
def Port.duplicateOf (p : Port) (q : Request) : Option (Option Copy) :=
  match p.dup with
  | some d => if d.seq = q.seq ∧ d.crc = q.crc then some d.copy else none
  | none => none

/-- A good frame arrives at a port: duplicate check, slot check, slot taking and lease, in one event (R148, R150). -/
def Port.arrive (p : Port) (q : Request) : Port :=
  match p.duplicateOf q with
  | some none => p
  | some (some c) =>
    match p.freeSlot with
    | none => p.takeOverrun
    | some k => p.occupy k fun lapsed => .answered
        { seq := q.seq, code := q.code, result := c.result, lapsed := lapsed, duplicate := true, payload := c.payload }
  | none =>
    match p.freeSlot with
    | none => p.takeOverrun
    | some k => { p.occupy k (.queued q) with dup := some { seq := q.seq, crc := q.crc, slot := k, copy := none } }

/-- The store takes the copy of a response, if the answered frame is the one it names (R150). -/
def DupStore.fill (k : SlotId) (c : Copy) (d : DupStore) : DupStore :=
  if d.slot = k ∧ d.copy = none then { d with copy := some c } else d

/-- An EXECUTING slot becomes ANSWERED, and the duplicate store takes its copy (R152, R156). -/
def Port.answer (p : Port) (k : SlotId) (r : Result) (payload : List Byte) : Port :=
  match p.slots[k] with
  | .executing q lapsed =>
    { p.setSlot k (.answered
        { seq := q.seq, code := q.code, result := r, lapsed := lapsed, duplicate := false, payload := payload }) with
      dup := p.dup.map (DupStore.fill k { result := r, payload := payload }) }
  | .free => p
  | .queued _ _ => p
  | .answered _ => p

/-- The answer of a long request reaches its port: dropped if the lane is on the discard list, else into the slot (R156). -/
def Port.answerLong (p : Port) (i : LaneId) (k : SlotId) (r : Result) (payload : List Byte) : Port :=
  if p.discard.contains i then { p with discard := p.discard.filter (· != i) } else p.answer k r payload

/-- The slot at the head of the delivery order with its response, if it is ANSWERED (R149). -/
def Port.headResponse (p : Port) : Option (SlotId × Response) :=
  match p.order with
  | [] => none
  | k :: _ =>
    match p.slots[k] with
    | .answered r => some (k, r)
    | .free => none
    | .queued _ _ => none
    | .executing _ _ => none

/-- A response is delivered: its slot becomes FREE and leaves the delivery order (R144, R147). -/
def Port.deliver (p : Port) (k : SlotId) : Port := { p.setSlot k .free with order := p.order.filter (· != k) }

/-- A slot is EXECUTING a request that addresses this lane. -/
def Slot.executes (x : Slot) (i : LaneId) : Bool :=
  match x with
  | .executing q _ => laneOf q.lane == some i
  | .free => false
  | .queued _ _ => false
  | .answered _ => false

/-- The port reset (R158): slots, delivery order, duplicate store and attention set are emptied, the lanes of EXECUTING requests
join the discard list, the lease is LIVE and restarted; strikes, BARRED flag, lease period and mask are kept. -/
def Port.portReset (p : Port) : Port :=
  { p with
    slots := Vector.replicate 4 Slot.free, order := [], dup := none
    discard := allLanes.filter fun i => p.discard.contains i || allSlots.any fun k => p.slots[k].executes i
    lease := p.lease.restart, attn := AttnSet.empty }

/-- A wrong key: one more strike, and BARRED at the limit (R124). -/
def Port.strike (p : Port) : Port :=
  { p with strikes := p.strikes + 1, barred := p.barred || decide (Config.strikeLimit ≤ p.strikes + 1) }

/-- The right key clears the strikes (R124). -/
def Port.clearStrikes (p : Port) : Port := { p with strikes := 0 }

/-! ## The arbiter and the request engine (R151 to R154) -/

/-- The request that the engine executes, with the port and slot it is in. -/
structure Ctx where
  port   : PortId
  slot   : SlotId
  req    : Request
  lapsed : Bool
  deriving DecidableEq, Repr

/-- A port's QUEUED slot with the earliest arrival (R151). -/
def Port.firstQueued (p : Port) : Option (SlotId × Request × Bool) :=
  p.order.findSome? fun k =>
    match p.slots[k] with
    | .queued q lapsed => some (k, q, lapsed)
    | .free => none
    | .executing _ _ => none
    | .answered _ => none

/-- The request in a port that the arbiter would choose. -/
def State.queuedAt (s : State) (p : PortId) : Option Ctx :=
  (s.port p).firstQueued.map fun x => { port := p, slot := x.1, req := x.2.1, lapsed := x.2.2 }

/-- The arbiter's choice: the port not served last when both have work (R151). -/
def State.choice (s : State) : Option Ctx :=
  match s.queuedAt (otherPort s.lastServed) with
  | some c => some c
  | none => s.queuedAt s.lastServed

/-- The chosen slot becomes EXECUTING and the arbiter notes its port (R151, R152). -/
def State.takeRequest (s : State) (c : Ctx) : State :=
  { s.modPort c.port (·.setSlot c.slot (.executing c.req c.lapsed)) with lastServed := c.port }

/-- How the engine answers a request: a refusal, OK with a payload, or to wait on the drive link (R152). -/
inductive Answer where
  | refuse (r : Result)
  | ok (payload : List Byte)
  | wait
  deriving DecidableEq, Repr

/-- The answer goes into the request's slot; a long request that waits stays EXECUTING (R152, R155). -/
def State.finish (s : State) (c : Ctx) (a : Answer) : State :=
  match a with
  | .refuse r => s.modPort c.port (·.answer c.slot r [])
  | .ok payload => s.modPort c.port (·.answer c.slot .ok payload)
  | .wait => s

/-- What the checks and the action of one request come to. -/
abbrev Request.Action := Ctx → State → Answer × State

/-- The engine's event (R152): if the arbiter's choice is a request of this row, it is taken, checked, acted on and answered.
Otherwise the row's event is not the one the engine takes, and nothing changes (log 1). -/
def State.engine (s : State) (row : Instr) (act : Request.Action) : State :=
  match s.choice with
  | none => s
  | some c =>
    if rowOfCode c.req.code = row then
      let out := act c (s.takeRequest c)
      out.2.finish c out.1
    else s

/-- Steps 5 and 6 (R123, R124): the refusal, if any, and the state with the strikes counted or cleared. -/
def keyCheck (c : Ctx) (claiming : Bool) (l : Lane) (s : State) : Option Result × State :=
  match l.claim with
  | none => if claiming && (s.port c.port).barred then (some .barred, s) else (none, s)
  | some cl =>
    if (s.port c.port).barred then (some .barred, s)
    else if cl.port ≠ c.port then (some .owned, s)
    else if cl.key ≠ c.req.key then (some .key, s.modPort c.port Port.strike)
    else (none, s.modPort c.port Port.clearStrikes)

/-- A lane holds a pending operation: IDENT in DEFINING, or a CLEAR in TRIPPED (R6). -/
def Mode.isPending : Mode → Bool
  | .defining _ => true
  | .tripped _ _ _ clear => clear.isSome
  | .standby => false
  | .active _ _ => false
  | .stopping _ => false

/-- Steps 5 to 7 on a lane that is not VACANT, then the rest of the request (R123, R7). -/
def keyed (c : Ctx) (claiming : Bool) (l : Lane) (s : State) (rest : State → Answer × State) : Answer × State :=
  match keyCheck c claiming l s with
  | (some r, s) => (.refuse r, s)
  | (none, s) => if l.mode.isPending then (.refuse .laneBusy, s) else rest s

/-- Steps 2 to 7 of a changing request that names a lane (R153), then its own steps with the lane's record. -/
def changing (c : Ctx) (shapeOk claiming : Bool) (s : State) (rest : LaneId → Lane → State → Answer × State) :
    Answer × State :=
  if !shapeOk then (.refuse .badField, s)
  else match laneOf c.req.lane with
    | none => (.refuse .badLane, s)
    | some i =>
      match s.lane i with
      | none => (.refuse .noLane, s)
      | some l => keyed c claiming l s (rest i l)

/-- Steps 2 and 3 of a request that names no lane (R153, R154), then its own steps. -/
def laneless (c : Ctx) (shapeOk : Bool) (s : State) (rest : Answer × State) : Answer × State :=
  if !shapeOk then (.refuse .badField, s) else if c.req.lane ≠ 255#8 then (.refuse .badLane, s) else rest

/-- A payload of exactly this length (R153 step 2). -/
def Ctx.lengthIs (c : Ctx) (n : Nat) : Bool := c.req.payload.length == n

/-! ## Events and the held reset state -/

/-- An event of the running part: while RESET_N is asserted nothing but a reset event acts (R1). -/
def whenRunning (s : State) (f : State → State) : Host.Outcome State Fault Refusal :=
  .next (if s.held then s else f s)

/-- An engine event. -/
def runEngine (row : Instr) (act : Request.Action) (s : State) : Host.Outcome State Fault Refusal :=
  whenRunning s fun s => s.engine row act

end Sys2Proof.Machine
end

