-- ==== Sys2Proof/Machine/Claims.lean ====
section
/-! DEFINITION. The claim unit's requests (chapter 6), the attention requests (chapter 9), READ_DEVICE, NOP and the request
whose code is unknown (chapter 7). -/

namespace Sys2Proof.Machine

/-- CLAIM (R119, R120): a lane the port already owns with this key is answered OK and nothing changes. -/
def claimAction : Request.Action := fun c s =>
  changing c (c.lengthIs 0) true s fun i l s =>
    match l.claim with
    | some _ => (.ok [], s)
    | none =>
      if c.req.key = 0#16 then (.refuse .badField, s)
      else (.ok [], s.putLane i (some { l with claim := some { port := c.port, key := c.req.key } }))

/-- CLAIM. -/
def execClaim (s : State) : Host.Outcome State Fault Refusal := runEngine .claim claimAction s

/-- RELEASE (R121). -/
def releaseAction : Request.Action := fun c s =>
  changing c (c.lengthIs 0) false s fun i l s => (.ok [], s.putLane i (some { l with claim := none }))

/-- RELEASE. -/
def execRelease (s : State) : Host.Outcome State Fault Refusal := runEngine .release releaseAction s

/-- A new lease period (R128): a LIVE port's timer restarts with it or stops; a LAPSED port's timer stays stopped. -/
def Lease.setPeriod (n : Nat) (l : Lease) : Lease :=
  { l with period := n, timer := if l.lapsed then l.timer else leaseTicks n }

/-- SET_LEASE (R128). -/
def setLeaseAction : Request.Action := fun c s =>
  laneless c (c.lengthIs 1) s
    (.ok [], s.modPort c.port fun p => { p with lease := p.lease.setPeriod (byteAt c.req.payload 0).toNat })

/-- SET_LEASE. -/
def execSetLease (s : State) : Host.Outcome State Fault Refusal := runEngine .setLease setLeaseAction s

/-- The shape of a SET_ATTENTION_MASK payload: 2 bytes, bits 10 to 15 reserved. -/
def maskShape (pl : List Byte) : Bool := pl.length == 2 && decide (u16At pl 0 < 1024)

/-- A new kind mask: entries of masked kinds leave the set (R188). -/
def Port.setMask (m : BitVec 10) (p : Port) : Port := { p with mask := m, attn := p.attn.keep m }

/-- SET_ATTENTION_MASK (R188). -/
def setAttentionMaskAction : Request.Action := fun c s =>
  laneless c (maskShape c.req.payload) s <|
    let s := s.modPort c.port (Port.setMask (BitVec.ofNat 10 (u16At c.req.payload 0)))
    (.ok [byteOf (s.port c.port).attn.count], s)

/-- SET_ATTENTION_MASK. -/
def execSetAttentionMask (s : State) : Host.Outcome State Fault Refusal :=
  runEngine .setAttentionMask setAttentionMaskAction s

/-- The READ_ATTENTION payload: total count, number returned, the first eight entries (R186). -/
def AttnSet.view (a : AttnSet) : List Byte :=
  byteOf a.count :: byteOf (a.entries.take 8).length :: (a.entries.take 8).flatten

/-- READ_ATTENTION (R186). -/
def readAttentionAction : Request.Action := fun c s => laneless c (c.lengthIs 0) s (.ok (s.port c.port).attn.view, s)

/-- READ_ATTENTION. -/
def execReadAttention (s : State) : Host.Outcome State Fault Refusal := runEngine .readAttention readAttentionAction s

/-- The shape of an ACK_ATTENTION payload: 0 to 8 pairs. -/
def ackShape (pl : List Byte) : Bool := pl.length % 2 == 0 && decide (pl.length ≤ 16)

/-- Remove the entries that a list of pairs names (R187). -/
def AttnSet.ackAll (a : AttnSet) (pairs : List (Byte × Byte)) : AttnSet := pairs.foldl (fun a x => a.ack x.1 x.2) a

/-- ACK_ATTENTION (R187): the count removed and the count left. -/
def ackAttentionAction : Request.Action := fun c s =>
  laneless c (ackShape c.req.payload) s <|
    let pairs := ackPairs c.req.payload
    if !pairs.all fun x => pairOk x.1 x.2 then (.refuse .badField, s)
    else
      let before := (s.port c.port).attn
      let after := before.ackAll pairs
      (.ok [byteOf (before.count - after.count), byteOf after.count], s.modPort c.port fun p => { p with attn := after })

/-- ACK_ATTENTION. -/
def execAckAttention (s : State) : Host.Outcome State Fault Refusal := runEngine .ackAttention ackAttentionAction s

/-- READ_DEVICE (R157). -/
def readDeviceAction : Request.Action := fun c s =>
  laneless c (c.lengthIs 0) s
    (.ok ([Config.partRevision, byteOf s.poolFree, byteOf s.haltLevel.toNat] ++ s.portS.deviceBytes ++ s.portU.deviceBytes), s)

/-- READ_DEVICE. -/
def execReadDevice (s : State) : Host.Outcome State Fault Refusal := runEngine .readDevice readDeviceAction s

/-- NOP (R157). -/
def nopAction : Request.Action := fun c s => laneless c (c.lengthIs 0) s (.ok [], s)

/-- NOP. -/
def execNop (s : State) : Host.Outcome State Fault Refusal := runEngine .nop nopAction s

/-- A request whose code is not one of the 28 fails step 1, whatever its length (R153, R192). -/
def unknownAction : Request.Action := fun _ s => (.refuse .unknownRequest, s)

/-- UNKNOWN_REQUEST. -/
def execUnknownRequest (s : State) : Host.Outcome State Fault Refusal := runEngine .unknownRequest unknownAction s

end Sys2Proof.Machine
end

