-- ==== Sys2Proof/Machine/Trips.lean ====
section
/-! DEFINITION. Trips and their resolution, with the cascades down the follow chains (R85 to R88, R102 to R107, R112). -/

namespace Sys2Proof.Machine

/-- A lane is ACTIVE or STOPPING. -/
def Mode.isMoving : Mode → Bool
  | .active _ _ => true
  | .stopping _ => true
  | .defining _ => false
  | .standby => false
  | .tripped _ _ _ _ => false

/-- A lane is TRIPPED with cause CASCADE, unresolved. -/
def Mode.cascadeUnresolved : Mode → Bool
  | .tripped .cascade _ r _ => !r
  | .tripped .drive _ _ _ => false
  | .tripped .link _ _ _ => false
  | .defining _ => false
  | .standby => false
  | .active _ _ => false
  | .stopping _ => false

/-- A lane is TRIPPED with cause CASCADE, resolved. -/
def Mode.cascadeResolved : Mode → Bool
  | .tripped .cascade _ r _ => r
  | .tripped .drive _ _ _ => false
  | .tripped .link _ _ _ => false
  | .defining _ => false
  | .standby => false
  | .active _ _ => false
  | .stopping _ => false

/-- The trip fields rewritten within TRIPPED, a pending CLEAR kept (R102, R104, R87); another mode is kept. -/
def Mode.retrip (c : TripCause) (code : Nat) : Mode → Mode
  | .tripped _ _ _ clear => .tripped c code false clear
  | .defining m => .defining m
  | .standby => .standby
  | .active h r => .active h r
  | .stopping k => .stopping k

/-- The trip cause becomes resolved (R105, R88); another mode is kept. -/
def Mode.resolve : Mode → Mode
  | .tripped c code _ clear => .tripped c code true clear
  | .defining m => .defining m
  | .standby => .standby
  | .active h r => .active h r
  | .stopping k => .stopping k

/-- The pending CLEAR that a lane holds (R6). -/
def Mode.clearMarker : Mode → Option Marker
  | .tripped _ _ _ clear => clear
  | .defining _ => none
  | .standby => none
  | .active _ _ => none
  | .stopping _ => none

/-- The pending CLEAR ends (R111); another mode is kept. -/
def Mode.dropClear : Mode → Mode
  | .tripped c code r _ => .tripped c code r none
  | .defining m => .defining m
  | .standby => .standby
  | .active h r => .active h r
  | .stopping k => .stopping k

/-- What entry to TRIPPED does to the lane's record (R103): output 0 at once, profile flushed, no held value, BLENDING. -/
def Lane.enterTripped (c : TripCause) (code : Nat) (l : Lane) : Lane :=
  { l with mode := .tripped c code false none, output := 0, track := .blending, queue := [] }

/-! ## Cascade trips (R85 to R87) -/

/-- Lane j trips in the event in which the root trips: it is the root, or it is a coupled ACTIVE or STOPPING lane whose parent
trips (R85), looking up at most the given number of links. -/
def State.tripsUp (s : State) (root : LaneId) : Nat → LaneId → Bool
  | 0, j => j == root
  | n + 1, j =>
    j == root || match s.lane j with
      | none => false
      | some l => l.mode.isMoving && l.cfg.coupled && match l.source.link with
        | none => false
        | some k => s.tripsUp root n k.parent

/-- Lane j trips in the event in which the root trips (R85). -/
def State.trips (s : State) (root j : LaneId) : Bool := s.tripsUp root 24 j

/-- A resolved, coupled CASCADE lane whose parent trips becomes unresolved again (R87). -/
def State.retrips (s : State) (root : LaneId) (l : Lane) : Bool :=
  l.mode.cascadeResolved && l.cfg.coupled && match l.source.link with
    | none => false
    | some k => s.trips root k.parent

/-- One lane's part in a trip event; the tree is read as it stood before the event. -/
def State.tripOne (before : State) (root : LaneId) (c : TripCause) (code : Nat) (s : State) (j : LaneId) : State :=
  match before.lane j with
  | none => s
  | some l =>
    if before.trips root j then
      let c := if j = root then c else .cascade
      let code := if j = root then code else 0
      ((s.putLane j (some (l.enterTripped c code))).report j (.tripped c code)).pushRef j
    else if before.retrips root l then
      (s.putLane j (some { l with mode := l.mode.retrip .cascade 0 })).report j (.tripped .cascade 0)
    else s

/-- A lane enters TRIPPED, with its whole cascade, in one event (R103, R85); REF entries join in ascending lane order (R164). -/
def State.enterTripped (s : State) (root : LaneId) (c : TripCause) (code : Nat) : State :=
  allLanes.foldl (s.tripOne root c code) s

/-! ## Leaving TRIPPED (R88, R106, R107, R112) -/

/-- Where lane j goes in the event in which the root leaves TRIPPED: nowhere, or for ACTIVE (true) or STANDBY (false). An
unresolved CASCADE lane with auto resume leaves with its parent: for ACTIVE if the parent went there and HALT is released (R88). -/
def State.leavesUp (s : State) (root : LaneId) (toActive : Bool) : Nat → LaneId → Option Bool
  | 0, j => if j = root then some toActive else none
  | n + 1, j =>
    if j = root then some toActive
    else match s.lane j with
      | none => none
      | some l =>
        if l.mode.cascadeUnresolved && l.cfg.autoResume then
          match l.source.link with
          | none => none
          | some k => (s.leavesUp root toActive n k.parent).map (· && !s.haltLevel)
        else none

/-- Where lane j goes in the event in which the root leaves TRIPPED (R88). -/
def State.leaves (s : State) (root : LaneId) (toActive : Bool) (j : LaneId) : Option Bool := s.leavesUp root toActive 24 j

/-- A lane's record after leaving TRIPPED for ACTIVE (R107) or STANDBY (R106). -/
def Lane.leaveTripped (toActive : Bool) (l : Lane) : Lane :=
  { l with mode := if toActive then .active none .idle else .standby, output := 0, track := .blending }

/-- A pending CLEAR is overtaken: CLEAR_TRIP is answered OK and the CLEAR entry leaves the list (R112). -/
def State.preemptClear (s : State) (j : LaneId) (m : Option Marker) : State :=
  match m with
  | none => s
  | some m =>
    { s.modPort m.port (·.answerLong j m.slot .ok []) with frames := s.frames.filter (· != { lane := j, kind := .clear }) }

/-- A lane leaves TRIPPED: RESUMED for ACTIVE alone (R107), and a pending CLEAR is answered (R112). -/
def State.leaveOne (s : State) (j : LaneId) (l : Lane) (toActive : Bool) : State :=
  let s := s.putLane j (some (l.leaveTripped toActive))
  let s := if toActive then s.report j .resumed else s
  s.preemptClear j l.mode.clearMarker

/-- One lane's part in a resolution event; the tree is read as it stood before the event. -/
def State.resolveOne (before : State) (root : LaneId) (toActive : Bool) (s : State) (j : LaneId) : State :=
  match before.lane j with
  | none => s
  | some l =>
    match before.leaves root toActive j with
    | some t => s.leaveOne j l t
    | none =>
      match l.source.link with
      | none => s
      | some k =>
        if l.mode.cascadeUnresolved && (before.leaves root toActive k.parent).isSome then
          s.putLane j (some { l with mode := l.mode.resolve })
        else s

/-- A lane leaves TRIPPED, for ACTIVE or STANDBY, and resolves its CASCADE followers down the tree in the same event (R88). -/
def State.leaveTripped (s : State) (root : LaneId) (toActive : Bool) : State :=
  allLanes.foldl (s.resolveOne root toActive) s

/-- A trip cause becomes resolved by the lane's own drive (R105), and the lane acts by its auto resume flag (R106). -/
def State.resolveOwn (s : State) (i : LaneId) (l : Lane) : State :=
  if l.cfg.autoResume then s.leaveTripped i (!s.haltLevel)
  else s.putLane i (some { l with mode := l.mode.resolve })

end Sys2Proof.Machine
end

