-- ==== Sys2Proof/Machine/DriveLink.lean ====
section
/-! DEFINITION. The drive link controller (chapter 8): composing and sending frames, replies and their absence, and what each
transaction's end does to its lane. -/

namespace Sys2Proof.Machine

/-! ## Sending (R168) -/

/-- A REF frame carries enable on and the output in ACTIVE and STOPPING, enable off and 0 otherwise (R168). -/
def Mode.enabled : Mode → Bool
  | .active _ _ => true
  | .stopping _ => true
  | .defining _ => false
  | .standby => false
  | .tripped _ _ _ _ => false

/-- The characters of a frame composed from the lane as it stands (R168, R194). -/
def frameChars (k : FrameKind) (l : Lane) : List Byte :=
  match k with
  | .ref => if l.mode.enabled then linkChars l.cfg.address 0x61 (s16Bytes l.output) else linkChars l.cfg.address 0x60 (s16Bytes 0)
  | .ident _ => linkChars l.cfg.address 0x62 []
  | .clear => linkChars l.cfg.address 0x63 []

/-- The idle controller takes the oldest entry, fills the transaction's record and starts sending (R163, R168). An entry of a
VACANT lane, which R167 rules out, is dropped. -/
def State.startTransaction (s : State) : State :=
  match s.link, s.frames with
  | .idle, e :: rest =>
    match s.lane e.lane with
    | none => { s with frames := rest }
    | some l =>
      { s with
        frames := rest
        link := .sending { lane := e.lane, kind := e.kind, address := l.cfg.address, stale := false } (frameChars e.kind l) }
  | _, _ => s

/-- TRANSACTION_START (R162, R168). -/
def execTransactionStart (s : State) : Host.Outcome State Fault Refusal := whenRunning s State.startTransaction

/-- LINK_FRAME_SENT (R162, R170): DLDE is deasserted and the reply window opens. -/
def execLinkFrameSent (s : State) : Host.Outcome State Fault Refusal :=
  whenRunning s fun s =>
    match s.link with
    | .sending t _ => { s with link := .awaiting t false }
    | .idle => s
    | .awaiting _ _ => s
    | .guarding => s

/-- REPLY_BEGUN (R170): the window's close no longer ends the transaction. -/
def execReplyBegun (s : State) : Host.Outcome State Fault Refusal :=
  whenRunning s fun s =>
    match s.link with
    | .awaiting t _ => { s with link := .awaiting t true }
    | .idle => s
    | .sending _ _ => s
    | .guarding => s

/-- GUARD_END (R162): the controller is IDLE, and starts the next transaction at once if the list holds entries (log 8). -/
def execGuardEnd (s : State) : Host.Outcome State Fault Refusal :=
  whenRunning s fun s =>
    match s.link with
    | .guarding => { s with link := .idle }.startTransaction
    | .idle => s
    | .sending _ _ => s
    | .awaiting _ _ => s

/-! ## The end of a REF or CLEAR transaction (R172, R173) -/

/-- A valid reply with drive state TRIP, by the lane state (R102, R89). -/
def State.tripReply (s : State) (i : LaneId) (code : Nat) : State :=
  match s.lane i with
  | none => s
  | some l =>
    match l.mode with
    | .active _ _ | .stopping _ => s.enterTripped i .drive code
    | .tripped .drive _ false _ => s
    | .tripped _ _ _ _ =>
      (s.putLane i (some { l with mode := l.mode.retrip .drive code })).report i (.tripped .drive code)
    | .standby | .defining _ => s

/-- A valid READY or RUN reply to a REF frame, by the lane state (R105, R106). -/
def State.readyReply (s : State) (i : LaneId) : State :=
  match s.lane i with
  | none => s
  | some l =>
    match l.mode with
    | .tripped .drive _ false _ => s.resolveOwn i l
    | .tripped .link _ false _ => s.resolveOwn i l
    | .tripped _ _ _ _ | .active _ _ | .stopping _ | .standby | .defining _ => s

/-- The drive view takes a valid reply and the miss count becomes 0 (R172 steps 1, 2). -/
def Lane.heard (v : DriveView) (l : Lane) : Lane := { l with view := some v, misses := 0 }

/-- The third consecutive miss, by the lane state (R104, R89). -/
def State.linkLoss (s : State) (i : LaneId) : State :=
  match s.lane i with
  | none => s
  | some l =>
    let s := (s.putLane i (some { l with misses := 3, view := none })).report i .linkLost
    match l.mode with
    | .active _ _ | .stopping _ => s.enterTripped i .link 0
    | .tripped _ _ _ _ =>
      (s.putLane i (some { l with misses := 3, view := none, mode := l.mode.retrip .link 0 })).report i (.tripped .link 0)
    | .standby | .defining _ => s

/-- A transaction with no valid reply (R173). -/
def State.miss (s : State) (i : LaneId) (l : Lane) : State :=
  if l.misses < 2 then s.putLane i (some { l with misses := l.misses + 1 })
  else if l.misses = 2 then s.linkLoss i
  else s

/-- The end of a REF transaction (R172, R173). -/
def State.refEnd (s : State) (i : LaneId) (l : Lane) (r : Option Reply) : State :=
  match r with
  | none => s.miss i l
  | some r =>
    let s := s.putLane i (some (l.heard r.view))
    if r.view.state = .trip then s.tripReply i r.view.tripCode else s.readyReply i

/-- The pending CLEAR ends and its answer goes to the port (R111, R156). -/
def State.endClear (s : State) (i : LaneId) (m : Marker) (r : Result) : State :=
  match s.lane i with
  | none => s
  | some l => (s.putLane i (some { l with mode := l.mode.dropClear })).modPort m.port (·.answerLong i m.slot r [])

/-- The end of a CLEAR transaction of a lane that holds a pending CLEAR (R111, R177). -/
def State.clearEnd (s : State) (i : LaneId) (l : Lane) (m : Marker) (r : Option Reply) : State :=
  match r with
  | none => (s.miss i l).endClear i m .noDrive
  | some r =>
    if r.view.state = .trip then ((s.putLane i (some (l.heard r.view))).tripReply i r.view.tripCode).endClear i m .stillTripped
    else
      let l := { l.heard r.view with mode := l.mode.dropClear }
      ((s.putLane i (some l)).leaveTripped i false).modPort m.port (·.answerLong i m.slot .ok [])

/-! ## The end of an IDENT transaction (R175, R176) -/

/-- The record of a lane identified (R12, R175): STANDBY, its update timer started. -/
def Lane.identified (r : Reply) (l : Lane) : Lane :=
  { l with mode := .standby, driveType := some r.driveType, view := some r.view, timer := some l.cfg.periodTicks }

/-- The end of an IDENT transaction of a DEFINING lane (R12, R13, R175, R176). -/
def State.identEnd (s : State) (i : LaneId) (l : Lane) (m : Marker) (try' : Nat) (r : Option Reply) : State :=
  match r with
  | some r => (s.putLane i (some (l.identified r))).modPort m.port (·.answerLong i m.slot .ok [r.driveType])
  | none =>
    if try' < 3 then s.pushControl i (.ident (try' + 1))
    else (s.enterVacant i).modPort m.port (·.answerLong i m.slot .noDrive [])

/-! ## The end of any transaction -/

/-- A transaction ends, in one event, with a valid reply or none (R162, R171): a stale one reaches nothing (R178). A DEFINING lane has
no REF or CLEAR frame, and a lane without a pending operation no control frame (R165, R166): those pairs are not reached (log 14). -/
def State.endTransaction (s : State) (t : Txn) (r : Option Reply) : State :=
  let s := { s with link := .guarding }
  if t.stale then s
  else match s.lane t.lane with
    | none => s
    | some l =>
      match t.kind, l.mode with
      | .ident n, .defining m => s.identEnd t.lane l m n r
      | .ident _, .standby | .ident _, .active _ _ | .ident _, .stopping _ | .ident _, .tripped _ _ _ _ => s
      | .clear, .tripped _ _ _ (some m) => s.clearEnd t.lane l m r
      | .clear, .tripped _ _ _ none | .clear, .standby | .clear, .active _ _ | .clear, .stopping _ => s.refEnd t.lane l r
      | .ref, .standby | .ref, .active _ _ | .ref, .stopping _ | .ref, .tripped _ _ _ _ => s.refEnd t.lane l r
      | .ref, .defining _ | .clear, .defining _ => s

/-- DRIVE_REPLY (R170, R171): a reply received to its end, valid or not, ends the transaction. DLRX is read only in AWAITING
(R162). -/
def execDriveReply (bytes : List Byte) (s : State) : Host.Outcome State Fault Refusal :=
  whenRunning s fun s =>
    match s.link with
    | .awaiting t _ => s.endTransaction t (validReply t bytes)
    | .idle => s
    | .sending _ _ => s
    | .guarding => s

/-- REPLY_WINDOW_TIMEOUT (R170): the window's close ends the transaction unless a reply has begun. -/
def execReplyWindowTimeout (s : State) : Host.Outcome State Fault Refusal :=
  whenRunning s fun s =>
    match s.link with
    | .awaiting t false => s.endTransaction t none
    | .awaiting _ true => s
    | .idle => s
    | .sending _ _ => s
    | .guarding => s

/-- REPLY_BROKEN (R170): the transaction ends with a reply that is not valid. -/
def execReplyBroken (s : State) : Host.Outcome State Fault Refusal :=
  whenRunning s fun s =>
    match s.link with
    | .awaiting t _ => s.endTransaction t none
    | .idle => s
    | .sending _ _ => s
    | .guarding => s

end Sys2Proof.Machine
end

