-- ==== Sys2Proof/Machine/Profile.lean ====
section
/-! DEFINITION. Profiles (chapter 3): starting and advancing a head, and the requests APPEND_SEGMENT, RUN_PROFILE, PAUSE_PROFILE,
FLUSH_PROFILE, READ_PROFILE. -/

namespace Sys2Proof.Machine

/-! ## The head (R61 to R65) -/

/-- The head progress of a head just started (R61). -/
def Segment.started (g : Segment) : Progress :=
  match g.body with
  | .ramp _ peak accel => .rate (if 1 ≤ accel ∧ accel ≤ peak then accel else peak)
  | .dwell n => .count n

/-- A profile started from IDLE at the lane's output, if the queue holds a segment (R58, R60). -/
def Lane.firstRun (l : Lane) : Run :=
  match l.queue with
  | [] => .idle
  | g :: _ => .running l.output g.started

/-- The head progress that an advance works on: a head not started is started first (R61). -/
def Segment.begun (g : Segment) (p : Progress) : Progress :=
  match p with
  | .notStarted => g.started
  | .rate r => .rate r
  | .count n => .count n

/-- One advance of a head (R62, R63): the new profile value, and the head progress, or none if the segment completes. Progress of
the other kind than the head's is not reached (log 14) and leaves the head as it is. -/
def Segment.advance (g : Segment) (v : Int) (p : Progress) : Int × Option Progress :=
  match g.body, g.begun p with
  | .ramp e peak accel, .rate r =>
    if (e - v).natAbs ≤ r then (e, none)
    else (if v < e then v + r else v - r, some (.rate (min (r + accel) peak)))
  | .dwell _, .count n => if n ≤ 1 then (v, none) else (v, some (.count (n - 1)))
  | .ramp _ _ _, p => (v, some p)
  | .dwell _, p => (v, some p)

/-- What stage 1 of an ACTIVE update leaves: run, queue, track mode, and the reports it makes (R29). -/
structure Stage where
  run     : Run
  queue   : List Segment
  track   : Track
  reports : List LaneReport
  deriving DecidableEq, Repr

/-- The SEGMENT_DONE report of a completed segment, if its notify field is yes (R64). -/
def Segment.doneReport (g : Segment) : List LaneReport := if g.notify then [.segmentDone g.tag] else []

/-- The head completes (R64); the completion that empties the queue is a drain (R65). -/
def completeHead (g : Segment) (rest : List Segment) (v : Int) (t : Track) : Stage :=
  match rest with
  | [] => { run := .idle, queue := [], track := .blending, reports := g.doneReport ++ [.profileEmpty] }
  | _ :: _ => { run := .running v .notStarted, queue := rest, track := t, reports := g.doneReport }

/-- Stage 1: the head of a RUNNING profile is advanced; IDLE and PAUSED are left (R29, R54). -/
def advanceHead (run : Run) (queue : List Segment) (t : Track) : Stage :=
  match run, queue with
  | .running v p, g :: rest =>
    match g.advance v p with
    | (v, some p) => { run := .running v p, queue := g :: rest, track := t, reports := [] }
    | (v, none) => completeHead g rest v t
  | run, queue => { run := run, queue := queue, track := t, reports := [] }

/-! ## The requests -/

/-- APPEND_SEGMENT (R56, R57). -/
def appendAction : Request.Action := fun c s =>
  changing c (c.lengthIs 11) false s fun i l s =>
    match l.mode with
    | .standby | .active _ _ =>
      match segmentOf c.req.payload with
      | none => (.refuse .badField, s)
      | some g =>
        if Config.queueMax ≤ l.queue.length then (.refuse .queueFull, s)
        else if s.poolFree = 0 then (.refuse .poolFull, s)
        else (.ok [], s.putLane i (some { l with queue := l.queue ++ [g] }))
    | .stopping _ | .tripped _ _ _ _ | .defining _ => (.refuse .badState, s)

/-- APPEND_SEGMENT. -/
def execAppendSegment (s : State) : Host.Outcome State Fault Refusal := runEngine .appendSegment appendAction s

/-- RUN_PROFILE (R58). -/
def runProfileAction : Request.Action := fun c s =>
  changing c (c.lengthIs 0) false s fun i l s =>
    match l.mode with
    | .active none run =>
      if l.queue = [] then (.refuse .badState, s)
      else match run with
        | .idle => (.ok [], s.putLane i (some { l with mode := .active none l.firstRun }))
        | .paused v p => (.ok [], s.putLane i (some { l with mode := .active none (.running v p) }))
        | .running _ _ => (.ok [], s)
    | .active (some _) _ => (.refuse .badState, s)
    | .standby | .stopping _ | .tripped _ _ _ _ | .defining _ => (.refuse .badState, s)

/-- RUN_PROFILE. -/
def execRunProfile (s : State) : Host.Outcome State Fault Refusal := runEngine .runProfile runProfileAction s

/-- PAUSE_PROFILE (R59). -/
def pauseProfileAction : Request.Action := fun c s =>
  changing c (c.lengthIs 0) false s fun i l s =>
    match l.mode with
    | .active held (.running v p) => (.ok [], s.putLane i (some { l with mode := .active held (.paused v p) }))
    | .active _ (.paused _ _) => (.ok [], s)
    | .active _ .idle => (.refuse .badState, s)
    | .standby | .stopping _ | .tripped _ _ _ _ | .defining _ => (.refuse .badState, s)

/-- PAUSE_PROFILE. -/
def execPauseProfile (s : State) : Host.Outcome State Fault Refusal := runEngine .pauseProfile pauseProfileAction s

/-- A flushed profile (R66): the queue is emptied and the run is IDLE; a flush of a RUNNING or PAUSED profile is a switch (R37). -/
def Lane.flush (l : Lane) : Lane :=
  match l.mode with
  | .active held .idle => { l with queue := [], mode := .active held .idle }
  | .active held (.running _ _) => { l with queue := [], mode := .active held .idle, track := .blending }
  | .active held (.paused _ _) => { l with queue := [], mode := .active held .idle, track := .blending }
  | .standby | .stopping _ | .tripped _ _ _ _ | .defining _ => { l with queue := [] }

/-- FLUSH_PROFILE (R66). -/
def flushProfileAction : Request.Action := fun c s =>
  changing c (c.lengthIs 0) false s fun i l s => (.ok [], s.putLane i (some l.flush))

/-- FLUSH_PROFILE. -/
def execFlushProfile (s : State) : Host.Outcome State Fault Refusal := runEngine .flushProfile flushProfileAction s

/-- READ_PROFILE (R70): neither key, claim, pin nor pending operation refuses it. -/
def readProfileAction : Request.Action := fun c s =>
  if !c.lengthIs 1 then (.refuse .badField, s)
  else match laneOf c.req.lane with
    | none => (.refuse .badLane, s)
    | some i =>
      match s.lane i with
      | none => (.refuse .noLane, s)
      | some l =>
        if 11 < (byteAt c.req.payload 0).toNat then (.refuse .badField, s)
        else (.ok (profileView l s.poolFree (byteAt c.req.payload 0).toNat), s)

/-- READ_PROFILE. -/
def execReadProfile (s : State) : Host.Outcome State Fault Refusal := runEngine .readProfile readProfileAction s

end Sys2Proof.Machine
end

