-- ==== Sys2Proof/Machine/Table.lean ====
section
/-! DEFINITION. The lane table's requests (chapter 1): DEFINE_LANE, AMEND_LANE, PIN_LANE, RETIRE_LANE, READ_LANE, FIND_DRIVE,
LIST_LANES. -/

namespace Sys2Proof.Machine

/-! ## Structure checks (R10, R82) -/

/-- The checks that DEFINE_LANE and SET_SOURCE share on the parent, with the height below the lane (R10, R82); cycle says that
the parent is the lane itself or one of its descendants. -/
def State.parentRefusal (s : State) (cycle : Bool) (parent : LaneId) (height : Nat) : Option Result :=
  if cycle then some .cycle
  else match s.lane parent with
    | none => some .noLane
    | some p =>
      match p.mode with
      | .defining _ => some .badState
      | .standby | .active _ _ | .stopping _ | .tripped _ _ _ _ =>
        if Config.depthMax < s.depth parent + 1 + height then some .depth else none

/-- Step 11 of DEFINE_LANE (R10). -/
def State.defineRefusal (s : State) (i : LaneId) (cfg : LaneCfg) (src : Source) : Option Result :=
  if s.addressHeld i cfg.address then some .addressTaken
  else match src with
    | .fixed => none
    | .follow k => s.parentRefusal (k.parent == i) k.parent 0

/-! ## DEFINE_LANE (R9 to R11) -/

/-- The shape of a DEFINE_LANE payload: 21 bytes, reserved bits 0 (section 10.4). -/
def defineShape (pl : List Byte) : Bool := pl.length == 21 && decide ((byteAt pl 11).toNat < 16)

/-- The record of a lane just defined (R11). -/
def Lane.defined (m : Marker) (cfg : LaneCfg) (src : Source) (setPoint : Int) : Lane :=
  { cfg := cfg, pinned := false, driveType := none, source := src, setPoint := setPoint, output := 0, track := .blending
    queue := [], claim := none, view := none, misses := 0, mode := .defining m, timer := none }

/-- Steps 10 and 11 and the acceptance, on a VACANT lane. -/
def defineVacant (c : Ctx) (i : LaneId) (s : State) : Answer × State :=
  let pl := c.req.payload
  match defineCfg pl, sourceAt (byteAt pl 12) pl 15 with
  | some cfg, some src =>
    if !(cfgOk cfg && ruOk (s16At pl 13)) then (.refuse .badField, s)
    else match s.defineRefusal i cfg src with
      | some r => (.refuse r, s)
      | none =>
        (.wait, (s.putLane i (some (Lane.defined { port := c.port, slot := c.slot } cfg src (s16At pl 13)))).pushControl i
          (.ident 1))
  | _, _ => (.refuse .badField, s)

/-- DEFINE_LANE (R9): it alone is for a VACANT lane. -/
def defineAction : Request.Action := fun c s =>
  if !defineShape c.req.payload then (.refuse .badField, s)
  else match laneOf c.req.lane with
    | none => (.refuse .badLane, s)
    | some i =>
      match s.lane i with
      | none => defineVacant c i s
      | some l => keyed c false l s fun s => (.refuse .badState, s)

/-- DEFINE_LANE. -/
def execDefineLane (s : State) : Host.Outcome State Fault Refusal := runEngine .defineLane defineAction s

/-! ## AMEND_LANE (R15 to R18) -/

/-- The shape of an AMEND_LANE payload: 14 bytes, reserved bits 0. -/
def amendShape (pl : List Byte) : Bool :=
  pl.length == 14 && (amendMask pl &&& 0xFC00#16) == 0#16 && decide ((byteAt pl 13).toNat < 16)

/-- The record after an accepted AMEND_LANE: a named update period restarts the timer (R17), a changed address drops the drive
view and the miss count (R18). -/
def Lane.amended (m : Half) (cfg : LaneCfg) (l : Lane) : Lane :=
  { l with
    cfg := cfg
    timer := if m.getLsbD 1 then some cfg.periodTicks else l.timer
    view := if cfg.address = l.cfg.address then l.view else none
    misses := if cfg.address = l.cfg.address then l.misses else 0 }

/-- The state after an accepted AMEND_LANE; a changed address makes the lane's transaction in flight stale (R163). -/
def State.amend (s : State) (i : LaneId) (m : Half) (cfg : LaneCfg) (l : Lane) : State :=
  let s := s.putLane i (some (l.amended m cfg))
  if cfg.address = l.cfg.address then s else { s with link := s.link.markStale i }

/-- AMEND_LANE. -/
def amendAction : Request.Action := fun c s =>
  changing c (amendShape c.req.payload) false s fun i l s =>
    let m := amendMask c.req.payload
    if m = 0#16 then (.ok [], s)
    else if m.getLsbD 0 ∧ l.mode ≠ .standby then (.refuse .badState, s)
    else if l.pinned ∧ namesPinned m then (.refuse .pinned, s)
    else match amendCfg c.req.payload l.cfg with
      | none => (.refuse .badField, s)
      | some cfg =>
        if !cfgOk cfg then (.refuse .badField, s)
        else if m.getLsbD 0 ∧ s.addressHeld i cfg.address then (.refuse .addressTaken, s)
        else (.ok [], s.amend i m cfg l)

/-- AMEND_LANE. -/
def execAmendLane (s : State) : Host.Outcome State Fault Refusal := runEngine .amendLane amendAction s

/-! ## PIN_LANE and RETIRE_LANE (R19 to R22) -/

/-- PIN_LANE (R19). -/
def pinAction : Request.Action := fun c s =>
  changing c (c.lengthIs 0) false s fun i l s => (.ok [], s.putLane i (some { l with pinned := true }))

/-- PIN_LANE. -/
def execPinLane (s : State) : Host.Outcome State Fault Refusal := runEngine .pinLane pinAction s

/-- RETIRE_LANE (R21, R22). -/
def retireAction : Request.Action := fun c s =>
  changing c (c.lengthIs 0) false s fun i l s =>
    if l.mode ≠ .standby then (.refuse .badState, s)
    else if l.pinned then (.refuse .pinned, s)
    else if s.followerCount i ≠ 0 then (.refuse .hasFollowers, s)
    else (.ok [], s.enterVacant i)

/-- RETIRE_LANE. -/
def execRetireLane (s : State) : Host.Outcome State Fault Refusal := runEngine .retireLane retireAction s

/-! ## READ_LANE, FIND_DRIVE, LIST_LANES (R23, R24) -/

/-- The READ_LANE payload of a lane (R23). -/
def State.viewOf (s : State) (i : LaneId) : List Byte :=
  match s.lane i with
  | none => vacantView i
  | some l => laneView i l (s.depth i) (s.followerCount i)

/-- READ_LANE (R23): neither key, claim, pin nor pending operation refuses it, and a VACANT lane is answered. -/
def readLaneAction : Request.Action := fun c s =>
  if !c.lengthIs 0 then (.refuse .badField, s)
  else match laneOf c.req.lane with
    | none => (.refuse .badLane, s)
    | some i => (.ok (s.viewOf i), s)

/-- READ_LANE. -/
def execReadLane (s : State) : Host.Outcome State Fault Refusal := runEngine .readLane readLaneAction s

/-- The lane that is not VACANT and holds a drive address (R24). -/
def State.findDrive (s : State) (address : Nat) : Option LaneId :=
  allLanes.find? fun i => match s.lane i with
    | none => false
    | some l => l.cfg.address == address

/-- FIND_DRIVE (R24). -/
def findDriveAction : Request.Action := fun c s =>
  laneless c (c.lengthIs 1) s <|
    let a := (byteAt c.req.payload 0).toNat
    if a < 1 ∨ 31 < a then (.refuse .badField, s)
    else match s.findDrive a with
      | none => (.refuse .noLane, s)
      | some i => (.ok [byteOf i.val], s)

/-- FIND_DRIVE. -/
def execFindDrive (s : State) : Host.Outcome State Fault Refusal := runEngine .findDrive findDriveAction s

/-- LIST_LANES (R24). -/
def listLanesAction : Request.Action := fun c s =>
  laneless c (c.lengthIs 0) s (.ok (allLanes.map fun i => byteOf (stateCode (s.lane i))), s)

/-- LIST_LANES. -/
def execListLanes (s : State) : Host.Outcome State Fault Refusal := runEngine .listLanes listLanesAction s

end Sys2Proof.Machine
end

