-- ==== Sys2Proof/Machine/Motion.lean ====
section
/-! DEFINITION. The motion requests (chapters 2, 4, 5): START, STOP, HOLD, RESUME, SET_POINT, SET_SOURCE, SET_RATIO, CLEAR_TRIP. -/

namespace Sys2Proof.Machine

/-- An accepted START: the lane is ACTIVE with no held value and BLENDING, its profile run if asked for and loaded (R95, R60). -/
def Lane.start (runProfile : Bool) (l : Lane) : Lane :=
  { l with mode := .active none (if runProfile then l.firstRun else .idle), track := .blending }

/-- START (R94, R95). -/
def startAction : Request.Action := fun c s =>
  changing c (c.lengthIs 1) false s fun i l s =>
    if l.mode ≠ .standby then (.refuse .badState, s)
    else if s.haltLevel then (.refuse .halted, s)
    else if 1 < (byteAt c.req.payload 0).toNat then (.refuse .badField, s)
    else match l.view with
      | none => (.refuse .noDrive, s)
      | some v =>
        if v.state = .trip then (.refuse .driveFault, s)
        else (.ok [], s.putLane i (some (l.start ((byteAt c.req.payload 0).toNat == 1))))

/-- START. -/
def execStart (s : State) : Host.Outcome State Fault Refusal := runEngine .start startAction s

/-- STOP (R96). -/
def stopAction : Request.Action := fun c s =>
  changing c (c.lengthIs 0) false s fun i l s =>
    match l.mode with
    | .active _ _ => (.ok [], s.putLane i (some (l.enterStopping .command)))
    | .stopping _ => (.ok [], s)
    | .standby => (.ok [], s)
    | .tripped _ _ _ _ => (.refuse .badState, s)
    | .defining _ => (.refuse .badState, s)

/-- STOP. -/
def execStop (s : State) : Host.Outcome State Fault Refusal := runEngine .stop stopAction s

/-- HOLD (R44). -/
def holdAction : Request.Action := fun c s =>
  changing c (c.lengthIs 0) false s fun i l s =>
    match l.mode with
    | .active _ _ => (.ok [], s.putLane i (some l.takeHold))
    | .stopping _ => (.refuse .badState, s)
    | .standby => (.refuse .badState, s)
    | .tripped _ _ _ _ => (.refuse .badState, s)
    | .defining _ => (.refuse .badState, s)

/-- HOLD. -/
def execHold (s : State) : Host.Outcome State Fault Refusal := runEngine .hold holdAction s

/-- RESUME (R46). -/
def resumeAction : Request.Action := fun c s =>
  changing c (c.lengthIs 0) false s fun i l s =>
    match l.mode with
    | .active (some _) run => (.ok [], s.putLane i (some { l with mode := .active none run, track := .blending }))
    | .active none _ => (.ok [], s)
    | .stopping _ => (.refuse .badState, s)
    | .standby => (.refuse .badState, s)
    | .tripped _ _ _ _ => (.refuse .badState, s)
    | .defining _ => (.refuse .badState, s)

/-- RESUME. -/
def execResume (s : State) : Host.Outcome State Fault Refusal := runEngine .resume resumeAction s

/-- SET_POINT (R41). -/
def setPointAction : Request.Action := fun c s =>
  changing c (c.lengthIs 2) false s fun i l s =>
    if !ruOk (s16At c.req.payload 0) then (.refuse .badField, s)
    else (.ok [], s.putLane i (some { l with setPoint := s16At c.req.payload 0 }))

/-- SET_POINT. -/
def execSetPoint (s : State) : Host.Outcome State Fault Refusal := runEngine .setPoint setPointAction s

/-- The lane is ACTIVE. -/
def Mode.isActive : Mode → Bool
  | .active _ _ => true
  | .defining _ => false
  | .standby => false
  | .stopping _ => false
  | .tripped _ _ _ _ => false

/-- An accepted SET_SOURCE (R43, R83): another kind or another parent is a switch, which sets an ACTIVE lane BLENDING (R37). -/
def Lane.setSource (src : Source) (l : Lane) : Lane :=
  { l with
    source := src
    track := if l.mode.isActive ∧ src.link.map (·.parent) ≠ l.source.link.map (·.parent) then .blending else l.track }

/-- Step 11 of SET_SOURCE (R82). -/
def State.sourceRefusal (s : State) (i : LaneId) (src : Source) : Option Result :=
  match src with
  | .fixed => none
  | .follow k => s.parentRefusal (s.under i k.parent) k.parent (s.height i)

/-- SET_SOURCE (R42, R43, R81 to R83). -/
def setSourceAction : Request.Action := fun c s =>
  changing c (c.lengthIs 7) false s fun i l s =>
    if l.mode.cascadeUnresolved then (.refuse .badState, s)
    else match sourceAt (byteAt c.req.payload 0) c.req.payload 1 with
      | none => (.refuse .badField, s)
      | some src =>
        match s.sourceRefusal i src with
        | some r => (.refuse r, s)
        | none => (.ok [], s.putLane i (some (l.setSource src)))

/-- SET_SOURCE. -/
def execSetSource (s : State) : Host.Outcome State Fault Refusal := runEngine .setSource setSourceAction s

/-- The shape of a SET_RATIO payload: 5 bytes, bits 1 to 6 of the last reserved. -/
def ratioShape (pl : List Byte) : Bool := pl.length == 5 && (byteAt pl 4 &&& 0x7E#8) == 0#8

/-- The link after an accepted SET_RATIO: ratio and trim replaced, and the basis when the flag says it is given (R84). -/
def FollowLink.setRatio (pl : List Byte) (k : FollowLink) : FollowLink :=
  { k with
    ratio := u16At pl 0
    trim := s16At pl 2
    basis := if (byteAt pl 4).getLsbD 7 then (if (byteAt pl 4).getLsbD 0 then .feedback else .output) else k.basis }

/-- SET_RATIO (R84). -/
def setRatioAction : Request.Action := fun c s =>
  changing c (ratioShape c.req.payload) false s fun i l s =>
    match l.source with
    | .fixed => (.refuse .badState, s)
    | .follow k =>
      if !(ratioOk (u16At c.req.payload 0) && trimOk (s16At c.req.payload 2)) then (.refuse .badField, s)
      else (.ok [], s.putLane i (some { l with source := .follow (k.setRatio c.req.payload) }))

/-- SET_RATIO. -/
def execSetRatio (s : State) : Host.Outcome State Fault Refusal := runEngine .setRatio setRatioAction s

/-- CLEAR_TRIP (R109, R110): a resolved lane goes to STANDBY at once; an unresolved DRIVE lane takes a pending CLEAR and a CLEAR
entry, and the request waits. -/
def clearTripAction : Request.Action := fun c s =>
  changing c (c.lengthIs 0) false s fun i l s =>
    match l.mode with
    | .tripped _ _ true _ => (.ok [], s.leaveTripped i false)
    | .tripped .cascade _ false _ => (.refuse .badState, s)
    | .tripped .link _ false _ => (.refuse .noDrive, s)
    | .tripped .drive code false _ =>
      (.wait, (s.putLane i
        (some { l with mode := .tripped .drive code false (some { port := c.port, slot := c.slot }) })).pushControl i .clear)
    | .active _ _ => (.refuse .badState, s)
    | .stopping _ => (.refuse .badState, s)
    | .standby => (.refuse .badState, s)
    | .defining _ => (.refuse .badState, s)

/-- CLEAR_TRIP. -/
def execClearTrip (s : State) : Host.Outcome State Fault Refusal := runEngine .clearTrip clearTripAction s

end Sys2Proof.Machine
end

