-- ==== Sys2Proof/Machine/Ports.lean ====
section
/-! DEFINITION. What happens at the two command ports: frames and characters arriving, port resets, responses leaving, and port S pin by
pin. A row of port S is a whole transaction, from an assertion of CS_N to its deassertion; the pins themselves are LineEvents (log 6). -/

namespace Sys2Proof.Machine

/-- The filler byte of port S (R193). -/
def filler : Byte := 0xFF

/-- Filler for every byte of a port S transaction in which the part sends nothing, command byte included (R193). -/
def fillers (n : Nat) : List Byte := List.replicate n filler

/-- A row of port S names a transaction from its start, so it comes while CS_N is deasserted; while another transaction is open, or one
abandoned at a reset has not ended (R142), it is ruled out (log 1). -/
def State.atPort (s : State) (p : PortId) (f : State → State) : State :=
  match p, s.spi with
  | .s, .deselected => f s
  | .s, .selected _ _ => s
  | .u, _ => f s

/-- The receiver of a port after a whole frame or a discarded one: on port U the framer hunts with its gap timer stopped (R145), and URX
has been high, since a start byte was taken (R146); on port S the write-request transaction has shifted out filler (R193). -/
def State.frameEnded (s : State) (p : PortId) (received : Nat) : State :=
  match p with
  | .s => { s with misoOut := fillers (1 + received) }
  | .u => { s with framer := .hunt, gapTimer := none, urxLow := false }

/-- A frame's bytes have arrived at a port: a good frame goes through R148, any other is discarded (R140). -/
def State.receive (s : State) (p : PortId) (bytes : List Byte) : State :=
  let s := s.frameEnded p bytes.length
  match parseFrame bytes with
  | some q => s.modPort p (·.arrive q)
  | none => s

/-- GOOD_FRAME (R148). -/
def execGoodFrame (p : PortId) (bytes : List Byte) (s : State) : Host.Outcome State Fault Refusal :=
  whenRunning s fun s => s.atPort p fun s => s.receive p bytes

/-- FRAME_DISCARD (R140): no response, no slot, no entry and no lease restart. -/
def execFrameDiscard (p : PortId) (bytes : List Byte) (s : State) : Host.Outcome State Fault Refusal :=
  whenRunning s fun s => s.atPort p fun s => s.frameEnded p bytes.length

/-- WRITE_ABORTED (R143): the frame cut short has no response and no effect. -/
def execWriteAborted (bytes : List Byte) (s : State) : Host.Outcome State Fault Refusal :=
  whenRunning s fun s => s.atPort .s fun s => { s with misoOut := fillers (1 + bytes.length) }

/-- FRAMING_ERROR (R145): the frame in progress is discarded and the framer hunts. -/
def execFramingError (s : State) : Host.Outcome State Fault Refusal :=
  whenRunning s fun s => { s with framer := .hunt, gapTimer := none }

/-- GAP_TIMER_EXPIRY (R145): a running gap timer ends the frame in progress. -/
def execGapTimerExpiry (s : State) : Host.Outcome State Fault Refusal :=
  whenRunning s fun s =>
    match s.gapTimer with
    | some _ => { s with framer := .hunt, gapTimer := none }
    | none => s

/-- The frame is complete with its last CRC byte, counted from the payload length field (R143, R145). -/
def frameComplete (bytes : List Byte) : Bool :=
  decide (6 ≤ bytes.length) && bytes.length == 8 + (byteAt bytes 5).toNat

/-- The payload length byte has just arrived and is above 32 (R140). -/
def frameTooLong (bytes : List Byte) : Bool := bytes.length == 6 && decide (32 < (byteAt bytes 5).toNat)

/-- RECEIVED_CHARACTER (R145): in HUNT only the start byte counts; in RECEIVING each byte joins the frame and restarts the gap
timer, and the last CRC byte is the frame's arrival. After a break no character is taken until URX has returned high (R146). -/
def execReceivedCharacter (b : Byte) (s : State) : Host.Outcome State Fault Refusal :=
  whenRunning s fun s =>
    if s.urxLow then s
    else
      match s.framer with
      | .hunt => if b = 0xA5#8 then { s with framer := .receiving [], gapTimer := some Config.gapTicks } else s
      | .receiving got =>
        let got := got ++ [b]
        if frameTooLong got then s.frameEnded .u got.length
        else if frameComplete got then s.receive .u got
        else { s with framer := .receiving got, gapTimer := some Config.gapTicks }

/-- A break lets the character in progress end, and the rest of the response is not sent (R146). -/
def Transmitter.cut : Transmitter → Transmitter
  | .sending _ (c :: _) => .stopping c
  | .sending _ [] => .idle
  | .stopping c => .stopping c
  | .idle => .idle

/-- What a port reset does besides R158: on port U the break finds URX low, the framer hunts and the transmission is cut (R146); on
port S the command byte has shifted out one filler byte (R193). -/
def State.portStopped (s : State) (p : PortId) : State :=
  match p with
  | .s => { s with misoOut := fillers 1 }
  | .u => { s with framer := .hunt, gapTimer := none, urxLow := true, uTx := s.uTx.cut }

/-- URX is still low in a break that has been taken (R146). -/
def State.inBreak (s : State) (p : PortId) : Bool :=
  match p with
  | .s => false
  | .u => s.urxLow

/-- PORT_RESET (R158). A break is taken once, however long it lasts (R146). -/
def execPortReset (p : PortId) (s : State) : Host.Outcome State Fault Refusal :=
  whenRunning s fun s => s.atPort p fun s => if s.inBreak p then s else (s.portStopped p).modPort p Port.portReset

/-- The bytes port S has ready after the command byte: lead byte and response, or the EMPTY marker (R144, R193). -/
def Port.readout (p : Port) : List Byte :=
  match p.headResponse with
  | some (_, r) => 0xA5#8 :: responseBytes r
  | none => [0x00#8]

/-- READ_RESPONSE (R144): the readout and then filler are shifted out as far as the controller clocks; a response clocked out
whole is delivered when CS_N is deasserted. -/
def execReadResponse (clocked : Nat) (s : State) : Host.Outcome State Fault Refusal :=
  whenRunning s fun s => s.atPort .s fun s =>
    let out := s.portS.readout
    let s' := { s with misoOut := filler :: (out ++ fillers (clocked - out.length)).take clocked }
    match s.portS.headResponse with
    | some (k, _) => if out.length ≤ clocked then s'.modPort .s (·.deliver k) else s'
    | none => s'

/-- RESPONSE_SEND_START (R147): the idle transmitter starts sending the head response, start byte first. -/
def execResponseSendStart (s : State) : Host.Outcome State Fault Refusal :=
  whenRunning s fun s =>
    match s.uTx, s.portU.headResponse with
    | .idle, some (k, r) => { s with uTx := .sending k (0xA5#8 :: responseBytes r) }
    | .idle, none => s
    | .sending _ _, _ => s
    | .stopping _, _ => s

/-- RESPONSE_TRANSMITTED (R147): the response is delivered and the transmitter is idle. After a break there is no response to deliver, and
the transmitter is idle once the character in progress has ended (R146). -/
def execResponseTransmitted (s : State) : Host.Outcome State Fault Refusal :=
  whenRunning s fun s =>
    match s.uTx with
    | .sending k _ => { s with uTx := .idle }.modPort .u (·.deliver k)
    | .stopping _ => { s with uTx := .idle }
    | .idle => s

/-! ## Port S, pin by pin (R142 to R144, R193) -/

/-- The transactions of R142. -/
inductive SpiCommand where
  | writeRequest
  | readResponse
  | portReset
  | other
  deriving DecidableEq, Repr

/-- The transaction that a command byte decides (R142, R193). -/
def spiCommand (b : Byte) : SpiCommand :=
  if b = 0x3C#8 then .writeRequest else if b = 0xC3#8 then .readResponse else if b = 0x99#8 then .portReset else .other

/-- The byte that port S shifts out while it receives a byte in this phase: what R144 gives, and filler elsewhere (R193). -/
def SpiPhase.out : SpiPhase → Byte
  | .reading _ (b :: _) => b
  | .reading _ [] => filler
  | .command => filler
  | .writing _ => filler
  | .ignoring => filler

/-- A byte has been received whole in a transaction, and a byte has been shifted out (R142 to R144): the command byte decides; a frame
arrives with its last CRC byte, or is discarded at a length byte above 32; the rest is ignored. -/
def State.spiByte (s : State) (phase : SpiPhase) (b : Byte) : State :=
  let s := { s with misoOut := s.misoOut ++ [phase.out] }
  match phase with
  | .command =>
    match spiCommand b with
    | .writeRequest => { s with spi := .selected (.writing []) [] }
    | .readResponse => { s with spi := .selected (.reading (s.portS.headResponse.map (·.1)) s.portS.readout) [] }
    | .portReset => { s with spi := .selected .ignoring [] }.modPort .s Port.portReset
    | .other => { s with spi := .selected .ignoring [] }
  | .writing got =>
    let got := got ++ [b]
    if frameTooLong got then { s with spi := .selected .ignoring [] }
    else if frameComplete got then
      let s := { s with spi := .selected .ignoring [] }
      match parseFrame got with
      | some q => s.modPort .s (·.arrive q)
      | none => s
    else { s with spi := .selected (.writing got) [] }
  | .reading slot left => { s with spi := .selected (.reading slot left.tail) [] }
  | .ignoring => { s with spi := .selected .ignoring [] }

/-- The byte in eight bits, the first the most significant (R142). -/
def byteOfBits (bits : List Bool) : Byte := byteOf (bits.foldl (fun n b => 2 * n + b.toNat) 0)

/-- One SCK pulse in a transaction: the sampled bit joins the byte, and the eighth makes it whole. -/
def State.spiPulse (s : State) (mosi : Bool) : State :=
  match s.spi with
  | .deselected => s
  | .selected phase bits =>
    if bits.length < 7 then { s with spi := .selected phase (bits ++ [mosi]) } else s.spiByte phase (byteOfBits (bits ++ [mosi]))

/-- CS_N is deasserted: a response whose every byte has been clocked out is delivered (R144); a frame that is not complete is
discarded (R143); a byte that is not whole changes nothing (R142). -/
def State.spiEnd (s : State) : State :=
  match s.spi with
  | .selected (.reading (some k) []) _ => { s with spi := .deselected }.modPort .s (·.deliver k)
  | _ => { s with spi := .deselected }

/-- The level of MISO while a transaction is open: the next bit of the byte being shifted out, most significant first (R142). The spec
gives none while CS_N is deasserted. The model's choice (log 20): while RESET_N is held with CS_N asserted, where no port transmits (R1), it is
the filler's high level, as in any transaction that is ignored. -/
def State.miso (s : State) : Option Bool :=
  match s.spi with
  | .selected phase bits => some (phase.out.getLsbD (7 - bits.length))
  | .deselected => none

/-! ## The pins that no row names -/

/-- A pin's event in the held reset state: only its level is noted, and a transaction that begins there is ignored to its end (R1, R142). -/
def State.heldLine (s : State) (e : LineEvent) : State :=
  match e with
  | .csAssert => { s with spi := .selected .ignoring [] }
  | .csDeassert => { s with spi := .deselected }
  | .urxHigh => { s with urxLow := false }
  | .sck _ => s
  | .utxCharacter => s

/-- A pin's event in the running part (R142, R146, R147). -/
def State.runningLine (s : State) (e : LineEvent) : State :=
  match e with
  | .csAssert =>
    match s.spi with
    | .deselected => { s with spi := .selected .command [], misoOut := [] }
    | .selected _ _ => s
  | .sck mosi => s.spiPulse mosi
  | .csDeassert => s.spiEnd
  | .urxHigh => { s with urxLow := false }
  | .utxCharacter =>
    match s.uTx with
    | .sending k (_ :: c :: cs) => { s with uTx := .sending k (c :: cs) }
    | .stopping _ => { s with uTx := .idle }
    | .sending _ _ | .idle => s

/-- What the ports' pins do that no row of the table names (log 6). -/
def State.line (s : State) (e : LineEvent) : State := if s.held then s.heldLine e else s.runningLine e

end Sys2Proof.Machine
end

