-- ==== Sys2Proof/Machine/Resets.lean ====
section
/-! DEFINITION. Resets and the HALT events: POWER_ON, RESET_N_ASSERTION, RESET_N_RELEASE, HALT_ASSERTION, HALT_RELEASE. -/

namespace Sys2Proof.Machine

/-- A port after power-on (R139, R160, R191). -/
def Port.powerOn : Port :=
  { slots := Vector.replicate 4 Slot.free, order := [], dup := none, discard := [], strikes := 0, barred := false
    lease := { period := 0, lapsed := false, timer := none }, attn := AttnSet.empty, mask := BitVec.allOnes 10 }

/-- A port after RESET_N: as after power-on, but its strike count and BARRED flag are kept (R139). -/
def Port.resetN (p : Port) : Port := { Port.powerOn with strikes := p.strikes, barred := p.barred }

/-- A port S transaction in progress at a reset is abandoned: the rest of it is ignored, until CS_N is deasserted (R142, R160). -/
def Spi.abandon : Spi → Spi
  | .deselected => .deselected
  | .selected _ _ => .selected .ignoring []

/-- The values both whole-part resets give (R25, R49, R74, R92, R99, R116, R160, R181); the straps are read (R145). What the
reset does not reach is the environment's: the queue, the levels of HALT_N, CS_N and URX, what they are going to do, and the count of
ticks that orders free events (logs 3, 4, 6). -/
def State.clear (s : State) (straps : Straps) : State :=
  { s with
    haltLevel := false, haltRun := 0, lanes := Vector.replicate 24 none, poolFree := Config.poolSlots
    lastServed := .u, framer := .hunt, gapTimer := none, uTx := .idle, spi := s.spi.abandon, misoOut := []
    straps := straps
    link := .idle, frames := [] }

/-- POWER_ON (R25, R139): the whole part, strike counts and BARRED flags included. -/
def execPowerOn (straps : Straps) (s : State) : Host.Outcome State Fault Refusal :=
  .next { s.clear straps with held := false, portS := Port.powerOn, portU := Port.powerOn }

/-- RESET_N_ASSERTION (R1): every block takes its RESET_N values in one event, and the part is held. -/
def execResetNAssertion (straps : Straps) (s : State) : Host.Outcome State Fault Refusal :=
  .next { s.clear straps with held := true, portS := s.portS.resetN, portU := s.portU.resetN }

/-- RESET_N_RELEASE (R1): the time base, and with it HALT_N sampling, runs from here. -/
def execResetNRelease (s : State) : Host.Outcome State Fault Refusal := .next { s with held := false }

/-- One lane's part in a HALT assertion: an ACTIVE lane enters STOPPING with cause HALT (R100). -/
def State.haltOne (s : State) (i : LaneId) : State :=
  match s.lane i with
  | none => s
  | some l =>
    match l.mode with
    | .active _ _ => s.putLane i (some (l.enterStopping .halt))
    | .defining _ => s
    | .standby => s
    | .stopping _ => s
    | .tripped _ _ _ _ => s

/-- HALT_ASSERTION (R99, R100): the filtered level is asserted, and every ACTIVE lane enters STOPPING. The input that caused it
stands asserted (log 4). -/
def execHaltAssertion (s : State) : Host.Outcome State Fault Refusal :=
  whenRunning s fun s => allLanes.foldl State.haltOne { s with haltLevel := true, haltPin := true, haltRun := 0 }

/-- HALT_RELEASE (R99, R101): the filtered level is released, and no lane changes state. -/
def execHaltRelease (s : State) : Host.Outcome State Fault Refusal :=
  whenRunning s fun s => { s with haltLevel := false, haltPin := false, haltRun := 0 }

end Sys2Proof.Machine
end

