-- ==== Sys2Proof/Machine/Timers.lean ====
section
/-! DEFINITION. The timers: a lane's update (chapter 2), a port's lease expiry (chapter 6), and the tick of the time base (R1, R26,
R99, R126, R145). -/

namespace Sys2Proof.Machine

/-! ## The follow value (R76, R77) -/

/-- Hold a value inside two limits (R32). -/
def clampTo (low high d : Int) : Int := if d < low then low else if high < d then high else d

/-- The parent value of a FOLLOW lane (R76). A VACANT parent, which R79 rules out, has output 0 (R4). -/
def State.parentValue (s : State) (k : FollowLink) : Int :=
  match s.lane k.parent with
  | none => 0
  | some p =>
    match k.basis, p.view with
    | .output, _ => p.output
    | .feedback, some v => v.feedback
    | .feedback, none => p.output

/-- The follow value formed from a parent value (R77): truncated toward zero, then the trim, then the limit. -/
def FollowLink.value (k : FollowLink) (parentValue : Int) : Int :=
  clampTo (-30000) 30000 ((parentValue * k.ratio).tdiv 4096 + k.trim)

/-- The base demand (R31). -/
def State.baseDemand (s : State) (l : Lane) : Int :=
  match l.source with
  | .fixed => l.setPoint
  | .follow k => k.value (s.parentValue k)

/-! ## The update of a lane (R27, R29) -/

/-- The demand source of an ACTIVE lane (R30): held value, profile value, base demand. -/
def demandOf (held : Option Int) (run : Run) (base : Int) : Int :=
  match held, run with
  | some h, _ => h
  | none, .running v _ => v
  | none, .paused v _ => v
  | none, .idle => base

/-- One bounded move of the output (R33). -/
def moveToward (output demand : Int) (cap : Nat) : Int :=
  if (demand - output).natAbs ≤ cap then demand else if output < demand then output + cap else output - cap

/-- The step cap (R33). -/
def LaneCfg.cap (c : LaneCfg) (t : Track) : Nat :=
  match t with
  | .blending => c.blendStep
  | .locked => c.slewStep

/-- Stages 2 to 5 of an ACTIVE update, after stage 1 (R29 to R34). -/
def Lane.settle (l : Lane) (held : Option Int) (st : Stage) (base : Int) : Lane × List LaneReport :=
  let demand := clampTo l.cfg.lowLimit l.cfg.highLimit (demandOf held st.run base)
  let output := moveToward l.output demand (l.cfg.cap st.track)
  let locks := st.track = .blending ∧ output = demand
  ({ l with mode := .active held st.run, queue := st.queue, output := output, track := if locks then .locked else st.track },
    st.reports ++ if locks then [.locked] else [])

/-- A STOPPING update (R38): one bounded move to 0; the update that leaves 0 makes the lane STANDBY (R98). -/
def Lane.runDown (l : Lane) : Lane × List LaneReport :=
  let output := moveToward l.output 0 l.cfg.stopStep
  if output = 0 then ({ l with mode := .standby, output := 0 }, [.stopped]) else ({ l with output := output }, [])

/-- What the update does to the lane's record, and the reports it makes, by the lane state (R27). -/
def Lane.update (l : Lane) (base : Int) : Lane × List LaneReport :=
  match l.mode with
  | .active held run => l.settle held (advanceHead run l.queue l.track) base
  | .stopping _ => l.runDown
  | .standby => (l, [])
  | .tripped _ _ _ _ => (l, [])
  | .defining _ => (l, [])

/-- Hand a list of reports to the attention unit. -/
def State.reportAll (s : State) (i : LaneId) (rs : List LaneReport) : State := rs.foldl (fun s r => s.report i r) s

/-- One update of a lane whose timer runs: evaluation, timer reload (R26), REF entry (R40). -/
def State.update (s : State) (i : LaneId) (l : Lane) : State :=
  let out := l.update (s.baseDemand l)
  ((s.putLane i (some { out.1 with timer := some l.cfg.periodTicks })).reportAll i out.2).pushRef i

/-- LANE_UPDATE (R26, R27): a lane whose timer is stopped has no updates. -/
def execLaneUpdate (i : LaneId) (s : State) : Host.Outcome State Fault Refusal :=
  whenRunning s fun s =>
    match s.lane i with
    | none => s
    | some l =>
      match l.timer with
      | none => s
      | some _ => s.update i l

/-! ## Lease expiry (R129 to R132) -/

/-- The fallback of one lane that the port owns (R130 to R132). -/
def State.fallbackOne (p : PortId) (s : State) (i : LaneId) : State :=
  match s.lane i with
  | none => s
  | some l =>
    if l.claim.map (·.port) = some p then
      match l.cfg.fallback with
      | .hold => s.putLane i (some l.takeHold)
      | .stop =>
        match l.mode with
        | .active _ _ => s.putLane i (some (l.enterStopping .lapse))
        | .defining _ | .standby | .stopping _ | .tripped _ _ _ _ => s
      | .release => (s.putLane i (some { l with claim := none })).modPort p (·.takeLane i .claimDropped)
    else s

/-- The port lapses (R129 steps 1, 2). -/
def Port.lapse (p : Port) : Port := { p with lease := { p.lease with lapsed := true, timer := none } }.takeLapsed

/-- LEASE_EXPIRY (R129): a stopped timer does not expire (R126). -/
def execLeaseExpiry (p : PortId) (s : State) : Host.Outcome State Fault Refusal :=
  whenRunning s fun s =>
    match (s.port p).lease.timer with
    | none => s
    | some _ => allLanes.foldl (State.fallbackOne p) (s.modPort p Port.lapse)

/-! ## The tick of the time base -/

/-- A timer at a tick: one tick fewer. -/
def tickTimer (t : Option Nat) : Option Nat := t.map (· - 1)

/-- A timer expires at this tick. -/
def timerDue (t : Option Nat) : Bool :=
  match t with
  | none => false
  | some n => decide (n ≤ 1)

/-- The level that the HALT_N input shows at the next sample. -/
def State.haltSample (s : State) : Bool := s.haltIn.headD s.haltPin

/-- The sample is the third in a row that is opposite to the filtered level (R99). -/
def State.haltTurns (s : State) : Bool := s.haltSample != s.haltLevel && decide (2 ≤ s.haltRun)

/-- The HALT_N filter takes one sample (R99). -/
def State.sampleHalt (s : State) : State :=
  { s with
    haltPin := s.haltSample, haltIn := s.haltIn.tail
    haltRun := if s.haltSample = s.haltLevel ∨ 2 ≤ s.haltRun then 0 else s.haltRun + 1 }

/-- The update timer of a lane, if it is not VACANT. -/
def laneTimer (o : Option Lane) : Option Nat :=
  match o with
  | none => none
  | some l => l.timer

/-- The update timer of a lane record at a tick. -/
def tickLane (o : Option Lane) : Option Lane :=
  match o with
  | none => none
  | some l => some { l with timer := tickTimer l.timer }

/-- The lease timer of a port at a tick. -/
def Port.tick (p : Port) : Port := { p with lease := { p.lease with timer := tickTimer p.lease.timer } }

/-- The events of one tick: the HALT_N filter's change, the updates, the lease expiries, the gap timer's expiry. -/
def State.tickEvents (s : State) : List Instr :=
  (if s.haltTurns then [if s.haltSample then .haltAssertion else .haltRelease] else [])
  ++ (allLanes.filter fun i => timerDue (laneTimer (s.lane i))).map .laneUpdate
  ++ (if timerDue s.portS.lease.timer then [.leaseExpiry .s] else [])
  ++ (if timerDue s.portU.lease.timer then [.leaseExpiry .u] else [])
  ++ (if timerDue s.gapTimer then [.gapTimerExpiry] else [])

/-- Insert an event into a list in ascending order of rank. -/
def insertByRank (rank : Instr → Nat) (c : Instr) : List Instr → List Instr
  | [] => [c]
  | d :: ds => if rank c ≤ rank d then c :: d :: ds else d :: insertByRank rank c ds

/-- Order events by rank. -/
def orderByRank (rank : Instr → Nat) : List Instr → List Instr
  | [] => []
  | c :: cs => insertByRank rank c (orderByRank rank cs)

/-- One tick of the 1 ms time base (log 2): HALT_N is sampled, every running timer counts, and the events that fall on the tick
wait in the queue in an order that the spec leaves free (log 3). While the part is held there is no tick (R1). -/
def State.tick (s : State) : State :=
  if s.held then s
  else
    { s.sampleHalt with
      ticks := s.ticks + 1
      lanes := ⟨(s.lanes.toList.map tickLane).toArray, by simp⟩
      portS := s.portS.tick, portU := s.portU.tick, gapTimer := tickTimer s.gapTimer
      pending := s.pending ++ orderByRank (Config.tickRank s.ticks) s.tickEvents }

/-- What the part does while no command waits: it takes the next event of the ports' pins that no row names (log 6), and when none is to
come, one tick of the time base (log 2). -/
def State.quiet (s : State) : State :=
  match s.lineIn with
  | [] => s.tick
  | e :: rest => { s with lineIn := rest }.line e

end Sys2Proof.Machine
end

