-- ==== Sys2Proof/Machine/Dispatch.lean ====
section
/-! DEFINITION. One arm per command: a direct call of its meaning. -/

namespace Sys2Proof.Machine

def exec (i : Instr) (s : State) : Host.Outcome State Fault Refusal :=
  match i with
  | .powerOn straps => Sys2Proof.Machine.execPowerOn straps s
  | .resetNAssertion straps => Sys2Proof.Machine.execResetNAssertion straps s
  | .resetNRelease => Sys2Proof.Machine.execResetNRelease s
  | .haltAssertion => Sys2Proof.Machine.execHaltAssertion s
  | .haltRelease => Sys2Proof.Machine.execHaltRelease s
  | .goodFrame p bytes => Sys2Proof.Machine.execGoodFrame p bytes s
  | .frameDiscard p bytes => Sys2Proof.Machine.execFrameDiscard p bytes s
  | .writeAborted bytes => Sys2Proof.Machine.execWriteAborted bytes s
  | .framingError => Sys2Proof.Machine.execFramingError s
  | .gapTimerExpiry => Sys2Proof.Machine.execGapTimerExpiry s
  | .portReset p => Sys2Proof.Machine.execPortReset p s
  | .readResponse clocked => Sys2Proof.Machine.execReadResponse clocked s
  | .responseSendStart => Sys2Proof.Machine.execResponseSendStart s
  | .responseTransmitted => Sys2Proof.Machine.execResponseTransmitted s
  | .unknownRequest => Sys2Proof.Machine.execUnknownRequest s
  | .defineLane => Sys2Proof.Machine.execDefineLane s
  | .amendLane => Sys2Proof.Machine.execAmendLane s
  | .pinLane => Sys2Proof.Machine.execPinLane s
  | .retireLane => Sys2Proof.Machine.execRetireLane s
  | .readLane => Sys2Proof.Machine.execReadLane s
  | .findDrive => Sys2Proof.Machine.execFindDrive s
  | .listLanes => Sys2Proof.Machine.execListLanes s
  | .start => Sys2Proof.Machine.execStart s
  | .stop => Sys2Proof.Machine.execStop s
  | .hold => Sys2Proof.Machine.execHold s
  | .resume => Sys2Proof.Machine.execResume s
  | .setPoint => Sys2Proof.Machine.execSetPoint s
  | .setSource => Sys2Proof.Machine.execSetSource s
  | .setRatio => Sys2Proof.Machine.execSetRatio s
  | .clearTrip => Sys2Proof.Machine.execClearTrip s
  | .appendSegment => Sys2Proof.Machine.execAppendSegment s
  | .runProfile => Sys2Proof.Machine.execRunProfile s
  | .pauseProfile => Sys2Proof.Machine.execPauseProfile s
  | .flushProfile => Sys2Proof.Machine.execFlushProfile s
  | .readProfile => Sys2Proof.Machine.execReadProfile s
  | .claim => Sys2Proof.Machine.execClaim s
  | .release => Sys2Proof.Machine.execRelease s
  | .setLease => Sys2Proof.Machine.execSetLease s
  | .setAttentionMask => Sys2Proof.Machine.execSetAttentionMask s
  | .readAttention => Sys2Proof.Machine.execReadAttention s
  | .ackAttention => Sys2Proof.Machine.execAckAttention s
  | .readDevice => Sys2Proof.Machine.execReadDevice s
  | .nop => Sys2Proof.Machine.execNop s
  | .laneUpdate k => Sys2Proof.Machine.execLaneUpdate k s
  | .leaseExpiry p => Sys2Proof.Machine.execLeaseExpiry p s
  | .transactionStart => Sys2Proof.Machine.execTransactionStart s
  | .linkFrameSent => Sys2Proof.Machine.execLinkFrameSent s
  | .driveReply bytes => Sys2Proof.Machine.execDriveReply bytes s
  | .replyWindowTimeout => Sys2Proof.Machine.execReplyWindowTimeout s
  | .replyBroken => Sys2Proof.Machine.execReplyBroken s
  | .guardEnd => Sys2Proof.Machine.execGuardEnd s
  | .receivedCharacter b => Sys2Proof.Machine.execReceivedCharacter b s
  | .replyBegun => Sys2Proof.Machine.execReplyBegun s

end Sys2Proof.Machine
end

