-- ==== Sys2Proof/Safety.lean ====
section
/-! DEFINITION. The words that the statements are written in: what an event leaves unchanged, how a request is answered, the checks
of the request engine as the spec's tables give them, and the laws that hold of every state the part reaches. -/

namespace Sys2Proof.Safety

open Sys2Proof.Machine

/-! ## What an event leaves unchanged -/

/-- The queue, the reset and HALT inputs, the ticks, the lines of both ports and the straps are unchanged. -/
structure SameLines (s t : State) : Prop where
  pending : t.pending = s.pending
  held : t.held = s.held
  haltLevel : t.haltLevel = s.haltLevel
  haltPin : t.haltPin = s.haltPin
  haltRun : t.haltRun = s.haltRun
  haltIn : t.haltIn = s.haltIn
  ticks : t.ticks = s.ticks
  framer : t.framer = s.framer
  gapTimer : t.gapTimer = s.gapTimer
  urxLow : t.urxLow = s.urxLow
  uTx : t.uTx = s.uTx
  spi : t.spi = s.spi
  misoOut : t.misoOut = s.misoOut
  lineIn : t.lineIn = s.lineIn
  straps : t.straps = s.straps

/-- As SameLines, but for the filtered HALT level and its filter (R99). -/
structure SameLinesButHalt (s t : State) : Prop where
  pending : t.pending = s.pending
  held : t.held = s.held
  haltIn : t.haltIn = s.haltIn
  ticks : t.ticks = s.ticks
  framer : t.framer = s.framer
  gapTimer : t.gapTimer = s.gapTimer
  urxLow : t.urxLow = s.urxLow
  uTx : t.uTx = s.uTx
  spi : t.spi = s.spi
  misoOut : t.misoOut = s.misoOut
  lineIn : t.lineIn = s.lineIn
  straps : t.straps = s.straps

/-- The lane table and the segment pool are unchanged. -/
structure SameTable (s t : State) : Prop where
  lanes : ∀ j, t.lane j = s.lane j
  pool : t.poolFree = s.poolFree

/-- One lane's record is written, and the segments its queue lost or gained have gone back to the pool or been taken from it. -/
structure WritesLane (s t : State) (i : LaneId) (o : Option Lane) : Prop where
  lane : t.lane i = o
  others : ∀ j, j ≠ i → t.lane j = s.lane j
  pool : t.poolFree = s.poolFree + queueLen (s.lane i) - queueLen o

/-- The drive link and its pending frame list are unchanged. -/
structure SameLink (s t : State) : Prop where
  link : t.link = s.link
  frames : t.frames = s.frames

/-- Both ports and the arbiter are unchanged. -/
structure SamePorts (s t : State) : Prop where
  portS : t.portS = s.portS
  portU : t.portU = s.portU
  lastServed : t.lastServed = s.lastServed

/-- Nothing but the receiver and the transmitter of the ports' lines changes: the queue, the HALT inputs, the ticks, the straps, the
events of the pins still to come, the table, the link and both ports stand. -/
structure OnlyLines (s t : State) : Prop where
  table : SameTable s t
  link : SameLink s t
  ports : SamePorts s t
  pending : t.pending = s.pending
  held : t.held = s.held
  haltLevel : t.haltLevel = s.haltLevel
  haltPin : t.haltPin = s.haltPin
  haltRun : t.haltRun = s.haltRun
  haltIn : t.haltIn = s.haltIn
  ticks : t.ticks = s.ticks
  lineIn : t.lineIn = s.lineIn
  straps : t.straps = s.straps

/-- A port takes a row's event from the start of its transaction: on port S, CS_N is deasserted (R142, log 6). -/
def PortOpen (s : State) (p : PortId) : Prop := p = .s → s.spi = .deselected

/-- A frame's bytes have come to a port's receiver, and no more of the lines is reached: at port U the framer hunts with its gap timer
stopped (R145) and URX has been high (R146); at port S the transaction is over and has shifted out filler alone (R193). -/
structure FrameTaken (s t : State) (p : PortId) (received : Nat) : Prop where
  framer : t.framer = if p = .u then .hunt else s.framer
  gapTimer : t.gapTimer = if p = .u then none else s.gapTimer
  urxLow : t.urxLow = if p = .u then false else s.urxLow
  misoOut : t.misoOut = if p = .s then List.replicate (1 + received) 0xFF#8 else s.misoOut
  uTx : t.uTx = s.uTx
  spi : t.spi = s.spi
  lineIn : t.lineIn = s.lineIn
  pending : t.pending = s.pending
  held : t.held = s.held
  haltLevel : t.haltLevel = s.haltLevel
  haltPin : t.haltPin = s.haltPin
  haltRun : t.haltRun = s.haltRun
  haltIn : t.haltIn = s.haltIn
  ticks : t.ticks = s.ticks
  straps : t.straps = s.straps
  served : t.lastServed = s.lastServed

/-! ## Requests -/

/-- The part runs, and the request that the arbiter chooses is a request of this row (R151, R152). -/
structure Serves (s : State) (c : Ctx) (row : Instr) : Prop where
  running : s.held = false
  chosen : s.choice = some c
  code : rowOfCode c.req.code = row

/-- The request of c was taken, its slot holds the response, and the rest of its port is the given port but for the copy that the
duplicate store takes (R152, R150). -/
structure Answered (t : State) (c : Ctx) (p : Port) (r : Result) (payload : List Byte) : Prop where
  slot : (t.port c.port).slots[c.slot] = .answered
    { seq := c.req.seq, code := c.req.code, result := r, lapsed := c.lapsed, duplicate := false, payload := payload }
  slots : ∀ k : SlotId, k ≠ c.slot → (t.port c.port).slots[k] = p.slots[k]
  dup : (t.port c.port).dup = p.dup.map (DupStore.fill c.slot { result := r, payload := payload })
  order : (t.port c.port).order = p.order
  discard : (t.port c.port).discard = p.discard
  strikes : (t.port c.port).strikes = p.strikes
  barred : (t.port c.port).barred = p.barred
  lease : (t.port c.port).lease = p.lease
  attn : (t.port c.port).attn = p.attn
  mask : (t.port c.port).mask = p.mask
  served : t.lastServed = c.port

/-- The request of c was taken and waits on the drive link: its slot is EXECUTING, and the rest of its port is the given port
(R152, R156). -/
structure Waits (t : State) (c : Ctx) (p : Port) : Prop where
  slot : (t.port c.port).slots[c.slot] = .executing c.req c.lapsed
  slots : ∀ k : SlotId, k ≠ c.slot → (t.port c.port).slots[k] = p.slots[k]
  dup : (t.port c.port).dup = p.dup
  order : (t.port c.port).order = p.order
  discard : (t.port c.port).discard = p.discard
  strikes : (t.port c.port).strikes = p.strikes
  barred : (t.port c.port).barred = p.barred
  lease : (t.port c.port).lease = p.lease
  attn : (t.port c.port).attn = p.attn
  mask : (t.port c.port).mask = p.mask
  served : t.lastServed = c.port

/-- The request was answered with this result, and nothing but its own port was reached, which is otherwise the given port (R155). -/
structure OnlyAnswered (s t : State) (c : Ctx) (p : Port) (r : Result) (payload : List Byte) : Prop where
  answered : Answered t c p r payload
  other : t.port (otherPort c.port) = s.port (otherPort c.port)
  table : SameTable s t
  link : SameLink s t
  lines : SameLines s t

/-- A port after steps 5 and 6 pass for a lane: the right key on an owned lane sets the strike count to 0 (R124). -/
def afterKey (l : Lane) (p : Port) : Port := if l.claim.isSome then { p with strikes := 0 } else p

/-- The request was answered OK with no payload, one lane's record was written, and nothing else was reached but the request's port. -/
structure LaneDone (s t : State) (c : Ctx) (i : LaneId) (l l' : Lane) : Prop where
  writes : WritesLane s t i (some l')
  answered : Answered t c (afterKey l (s.port c.port)) .ok []
  other : t.port (otherPort c.port) = s.port (otherPort c.port)
  link : SameLink s t
  lines : SameLines s t

/-- Steps 5 and 6 pass (R123): an owned lane needs a port that is not BARRED, is the owner and gives the claim's key; an unowned lane
stops only a CLAIM from a BARRED port. -/
def keyPasses (s : State) (c : Ctx) (claiming : Bool) (l : Lane) : Prop :=
  match l.claim with
  | none => claiming = true → (s.port c.port).barred = false
  | some cl => (s.port c.port).barred = false ∧ cl = { port := c.port, key := c.req.key }

/-- A changing request passes steps 3 to 7 for a lane that is not VACANT (R153). -/
structure Reaches (s : State) (c : Ctx) (i : LaneId) (l : Lane) (claiming : Bool) : Prop where
  lane : laneOf c.req.lane = some i
  record : s.lane i = some l
  key : keyPasses s c claiming l
  free : l.mode.isPending = false

/-! ## The request tables (R154, section 10.3, section 10.4) -/

/-- The requests that address a lane (R154). -/
def laneRows : List Instr :=
  [.defineLane, .amendLane, .pinLane, .retireLane, .readLane, .start, .stop, .hold, .resume, .setPoint, .setSource, .setRatio,
    .clearTrip, .appendSegment, .runProfile, .pauseProfile, .flushProfile, .readProfile, .claim, .release]

/-- The requests that name no lane (R154). -/
def deviceRows : List Instr :=
  [.findDrive, .listLanes, .setLease, .setAttentionMask, .readAttention, .ackAttention, .readDevice, .nop]

/-- The changing requests that address a lane (R122). -/
def changingRows : List Instr :=
  [.defineLane, .amendLane, .pinLane, .retireLane, .start, .stop, .hold, .resume, .setPoint, .setSource, .setRatio,
    .clearTrip, .appendSegment, .runProfile, .pauseProfile, .flushProfile, .claim, .release]

/-- Step 2 (R153, R192): a length that the request allows, and reserved bits 0. -/
def shapeOk (row : Instr) (payload : List Byte) : Prop :=
  match row with
  | .defineLane => payload.length = 21 ∧ (byteAt payload 11).toNat < 16
  | .amendLane => payload.length = 14 ∧ u16At payload 0 < 1024 ∧ (byteAt payload 13).toNat < 16
  | .start => payload.length = 1
  | .setPoint => payload.length = 2
  | .setSource => payload.length = 7
  | .setRatio => payload.length = 5 ∧ ∀ b : Fin 6, (byteAt payload 4).getLsbD (b.val + 1) = false
  | .appendSegment => payload.length = 11
  | .readProfile => payload.length = 1
  | .findDrive => payload.length = 1
  | .setLease => payload.length = 1
  | .setAttentionMask => payload.length = 2 ∧ u16At payload 0 < 1024
  | .ackAttention => ∃ n : Nat, n ≤ 8 ∧ payload.length = 2 * n
  | _ => payload.length = 0

/-! ## Reports (R183) -/

/-- An entry of this report's kind is present among a lane's entries (R184). -/
def holdsKind (a : LaneAttn) (r : LaneReport) : Bool :=
  match r with
  | .segmentDone _ => a.segmentDone.isSome
  | .profileEmpty => a.profileEmpty
  | .locked => a.locked
  | .stopped => a.stopped
  | .tripped _ _ => a.tripped.isSome
  | .resumed => a.resumed
  | .linkLost => a.linkLost
  | .claimDropped => a.claimDropped

/-- A port takes the reports of a lane that it owns and of an unowned lane (R118, R183). -/
def routed (s : State) (i : LaneId) (p : PortId) : Bool :=
  match (s.lane i).bind Lane.claim with
  | some c => c.port == p
  | none => true

/-- The entries of a lane in a port's set after these reports of it, each taken if it is routed there and not masked (R183, R184). -/
def entriesAfter (s : State) (i : LaneId) (rs : List LaneReport) (p : PortId) : LaneAttn :=
  rs.foldl (fun a r => if routed s i p && (s.port p).mask.getLsbD r.kind then a.take r else a) (s.port p).attn.lanes[i]

/-- The set of a port after these reports of one lane. -/
def setAfter (s : State) (i : LaneId) (rs : List LaneReport) (p : PortId) : AttnSet :=
  (s.port p).attn.onLane i fun _ => entriesAfter s i rs p

/-- A port is another port but for its attention set. -/
structure PortButSet (p q : Port) (a : AttnSet) : Prop where
  slots : q.slots = p.slots
  order : q.order = p.order
  dup : q.dup = p.dup
  discard : q.discard = p.discard
  strikes : q.strikes = p.strikes
  barred : q.barred = p.barred
  lease : q.lease = p.lease
  mask : q.mask = p.mask
  attn : q.attn = a

/-- The pending frame list after a REF entry is handed for a lane (R165). -/
def afterRef (i : LaneId) (frames : List Entry) : List Entry :=
  if Entry.mk i .ref ∈ frames then frames else frames ++ [Entry.mk i .ref]

/-- One update of a lane and nothing else: the lane's record, its reports in the sets, its REF entry (R29, R40, R183). -/
structure UpdateDone (s t : State) (i : LaneId) (l' : Lane) (rs : List LaneReport) : Prop where
  writes : WritesLane s t i (some l')
  frames : t.frames = afterRef i s.frames
  link : t.link = s.link
  ports : ∀ p, PortButSet (s.port p) (t.port p) (setAfter s i rs p)
  served : t.lastServed = s.lastServed
  lines : SameLines s t

/-! ## Laws of every state the part reaches -/

/-- A value in the range of a reference value. -/
def inRange (x : Int) : Prop := -30000 ≤ x ∧ x ≤ 30000

/-- The ranges of a follow link (R75). -/
def LinkOk (k : FollowLink) : Prop := k.ratio ≤ 16383 ∧ -3000 ≤ k.trim ∧ k.trim ≤ 3000

/-- The ranges of a segment (R51). -/
def SegmentOk (g : Segment) : Prop :=
  match g.body with
  | .ramp e peak accel => inRange e ∧ 1 ≤ peak ∧ peak ≤ 30000 ∧ accel ≤ 4095
  | .dwell n => 1 ≤ n ∧ n ≤ 65535

/-- The head progress belongs to the head segment: a rate for a RAMP, a count for a DWELL, each in its range, or not started (R54). -/
def ProgressOk (g : Segment) (p : Progress) : Prop :=
  match g.body, p with
  | _, .notStarted => True
  | .ramp _ peak _, .rate r => 1 ≤ r ∧ r ≤ peak
  | .dwell n, .count m => 1 ≤ m ∧ m ≤ n
  | .ramp _ _ _, .count _ => False
  | .dwell _, .rate _ => False

/-- The profile run of an ACTIVE lane (R54, R55): RUNNING and PAUSED have a head, and RUNNING no held value beside it. -/
def RunOk (held : Option Int) (queue : List Segment) (r : Run) : Prop :=
  match r with
  | .idle => True
  | .running v p => held = none ∧ inRange v ∧ ∃ g rest, queue = g :: rest ∧ ProgressOk g p
  | .paused v p => inRange v ∧ ∃ g rest, queue = g :: rest ∧ ProgressOk g p

/-- What a lane holds by its state (the table of R2; R36, R53, R93, R117, R166): the fields of the other states are absent by the
type of the mode. -/
def ModeOk (l : Lane) : Prop :=
  match l.mode with
  | .defining _ => l.output = 0 ∧ l.track = .blending ∧ l.queue = [] ∧ l.claim = none ∧ l.view = none ∧ l.misses = 0
      ∧ l.timer = none ∧ l.driveType = none ∧ l.pinned = false
  | .standby => l.output = 0 ∧ l.track = .blending ∧ l.timer.isSome ∧ l.driveType.isSome
  | .active held run => l.timer.isSome ∧ l.driveType.isSome ∧ (∀ h, held = some h → inRange h) ∧ RunOk held l.queue run
  | .stopping _ => l.track = .blending ∧ l.queue = [] ∧ l.timer.isSome ∧ l.driveType.isSome
  | .tripped cause code _ clear => l.output = 0 ∧ l.track = .blending ∧ l.queue = [] ∧ l.timer.isSome ∧ l.driveType.isSome
      ∧ (cause = .drive → 1 ≤ code ∧ code ≤ 63) ∧ (cause ≠ .drive → code = 0) ∧ (cause = .cascade → clear = none)

/-- The drive view's ranges (R174). -/
def ViewOk (v : DriveView) : Prop :=
  inRange v.feedback ∧ v.tripCode ≤ 63 ∧ (v.state = .trip ↔ 1 ≤ v.tripCode)

/-- A lane record is one that R2, R3, R54, R55, R75, R93, R173 and R174 allow. -/
structure LaneOk (l : Lane) : Prop where
  cfg : cfgOk l.cfg = true
  setPoint : inRange l.setPoint
  output : inRange l.output
  link : ∀ k, l.source = .follow k → LinkOk k
  queue : l.queue.length ≤ 12 ∧ ∀ g ∈ l.queue, SegmentOk g
  key : ∀ cl, l.claim = some cl → cl.key ≠ 0#16
  misses : l.misses ≤ 3
  view : ∀ v, l.view = some v → ViewOk v
  mode : ModeOk l

/-- Every lane record is a lawful one. -/
def LaneLaw (s : State) : Prop := ∀ i l, s.lane i = some l → LaneOk l

/-- The segments held by all profile queues. -/
def queued (s : State) : Nat := (allLanes.map fun i => queueLen (s.lane i)).sum

/-- The pool's free count and the profile queues make up 64 (R52). -/
def PoolLaw (s : State) : Prop := s.poolFree + queued s = 64

/-- A port's strike count and BARRED flag (R124). -/
def StrikeLaw (s : State) : Prop :=
  ∀ p, (s.port p).strikes ≤ 5 ∧ ((s.port p).barred = true ↔ (s.port p).strikes = 5)

/-- A port's delivery order lists its occupied slots, each once (section 7.4). -/
def SlotLaw (s : State) : Prop :=
  ∀ p, (s.port p).order.Nodup ∧ ∀ k : SlotId, k ∈ (s.port p).order ↔ (s.port p).slots[k].isFree = false

/-- A port's lease (R126): a LAPSED port's timer is stopped, and so is the timer of a port with period 0. -/
def LeaseLaw (s : State) : Prop :=
  ∀ p, (s.port p).lease.period ≤ 255
    ∧ ((s.port p).lease.lapsed = true → (s.port p).lease.timer = none)
    ∧ ((s.port p).lease.period = 0 → (s.port p).lease.timer = none)

/-- No entry of a masked kind stands in a port's set (R188). -/
def MaskLaw (s : State) : Prop := ∀ p, (s.port p).attn.keep (s.port p).mask = (s.port p).attn

/-- No two lanes that are not VACANT hold the same drive address (R5). -/
def AddressLaw (s : State) : Prop :=
  ∀ i j l m, s.lane i = some l → s.lane j = some m → l.cfg.address = m.cfg.address → i = j

/-- The follow relation (R79): every parent is a lane that is neither VACANT nor DEFINING, and no lane is deeper than 4. A lane on a
cycle would be counted deeper. -/
def TreeLaw (s : State) : Prop :=
  ∀ j l, s.lane j = some l → s.depth j ≤ 4
    ∧ ∀ k, l.source = .follow k → ∃ p, s.lane k.parent = some p ∧ ∀ m, p.mode ≠ .defining m

/-- An entry kind is a control kind (R164). -/
def isControl : FrameKind → Bool
  | .ref => false
  | .ident _ => true
  | .clear => true

/-- The control kind that a lane's pending operation calls for (R166). -/
def awaits (m : Mode) (k : FrameKind) : Bool :=
  match m, k with
  | .defining _, .ident n => decide (1 ≤ n) && decide (n ≤ 3)
  | .tripped _ _ _ (some _), .clear => true
  | _, _ => false

/-- The transaction in flight (R163). -/
def inFlight : Link → Option Txn
  | .sending t _ => some t
  | .awaiting t _ => some t
  | .idle => none
  | .guarding => none

/-- The lane's control entries, in the list or in flight and not stale. -/
def controls (s : State) (i : LaneId) : List FrameKind :=
  ((s.frames.filter fun e => e.lane == i && isControl e.kind).map (·.kind))
  ++ (match inFlight s.link with
    | some t => if t.lane == i && isControl t.kind && !t.stale then [t.kind] else []
    | none => [])

/-- The pending frame list (R164 to R167): entries of lanes that are not VACANT only, at most one REF entry a lane, no REF entry of a
DEFINING lane, and exactly one control frame, in the list or in flight, for a lane with a pending operation, of its kind; none for
another lane. A transaction that is not stale names a lane that is not VACANT, at the lane's address. -/
structure FrameLaw (s : State) : Prop where
  present : ∀ e ∈ s.frames, ∃ l, s.lane e.lane = some l ∧ (e.kind = .ref → ∀ m, l.mode ≠ .defining m)
  refs : ∀ i, s.frames.count { lane := i, kind := .ref } ≤ 1
  control : ∀ i l, s.lane i = some l → l.mode.isPending = true → ∃ k, controls s i = [k] ∧ awaits l.mode k = true
  noControl : ∀ i, (∀ l, s.lane i = some l → l.mode.isPending = false) → controls s i = []
  flight : ∀ t, inFlight s.link = some t → t.stale = false → ∃ l, s.lane t.lane = some l ∧ l.cfg.address = t.address
    ∧ (t.kind = .ref → ∀ m, l.mode ≠ .defining m)

/-- The marker of a lane's pending operation (R6). -/
def markerOf (m : Mode) : Option Marker :=
  match m with
  | .defining k => some k
  | .tripped _ _ _ clear => clear
  | .standby => none
  | .active _ _ => none
  | .stopping _ => none

/-- The lines of the two ports: the port U transmitter sends the response at the head of the delivery order, from the character in progress
on (R147); a port S transaction reads the response at the head of its own (R144), and its byte being received has fewer than eight bits
(R142); the gap timer runs exactly while the framer is RECEIVING (R145), which it is not in a break (R146). -/
structure TransmitLaw (s : State) : Prop where
  sending : ∀ k cs, s.uTx = .sending k cs →
    ∃ r, s.portU.headResponse = some (k, r) ∧ cs ≠ [] ∧ cs <:+ 0xA5#8 :: responseBytes r
  reading : ∀ k left bits, s.spi = .selected (.reading (some k) left) bits →
    ∃ r, s.portS.headResponse = some (k, r) ∧ left <:+ 0xA5#8 :: responseBytes r
  byte : ∀ phase bits, s.spi = .selected phase bits → bits.length < 8
  framer : s.framer = .hunt ↔ s.gapTimer = none
  inBreak : s.urxLow = true → s.framer = .hunt

/-- Waiting requests and pending operations belong together (R6, R156): an EXECUTING slot is named by the marker of the lane it
addresses, a marked slot is EXECUTING that request unless the lane is on the port's discard list, and a lane on a discard list has
its answer owed to that port. -/
structure LongLaw (s : State) : Prop where
  executing : ∀ p (k : SlotId) q f, (s.port p).slots[k] = .executing q f →
    ∃ i l, laneOf q.lane = some i ∧ s.lane i = some l ∧ markerOf l.mode = some { port := p, slot := k } ∧ i ∉ (s.port p).discard
  marked : ∀ i l m, s.lane i = some l → markerOf l.mode = some m → i ∉ (s.port m.port).discard →
    ∃ q f, (s.port m.port).slots[m.slot] = .executing q f ∧ laneOf q.lane = some i
  owed : ∀ p i, i ∈ (s.port p).discard → ∃ l m, s.lane i = some l ∧ markerOf l.mode = some m ∧ m.port = p

/-! ## The end of a transaction -/

/-- The event ends a transaction with no valid reply (R170, R171): the window closes with no reply begun, the reply breaks, or the reply
that has come is not valid. -/
def EndsWithout (e : Instr) (t : Txn) (begun : Bool) : Prop :=
  match e with
  | .replyWindowTimeout => begun = false
  | .replyBroken => True
  | .driveReply chars => validReply t chars = none
  | _ => False

/-- A transaction of this record has ended, and nothing was reached but the link and what the statement names (R162). -/
structure LinkGuards (s t : State) : Prop where
  link : t.link = .guarding
  lines : SameLines s t
  served : t.lastServed = s.lastServed

/-- A lane that a trip reaches: ACTIVE or STOPPING, coupled, a follower of this parent (R85). -/
def cascades (l : Lane) (parent : LaneId) : Prop :=
  l.mode.isMoving = true ∧ l.cfg.coupled = true ∧ ∃ k, l.source = .follow k ∧ k.parent = parent

/-- The record of a lane that has just entered TRIPPED (R103). -/
def trippedRecord (cause : TripCause) (code : Nat) (l : Lane) : Lane :=
  { l with mode := .tripped cause code false none, output := 0, track := .blending, queue := [] }

/-- The answer of a long request at a port (R156): dropped, with the lane off the discard list, or in its EXECUTING slot. -/
def AnswersLong (s t : State) (i : LaneId) (m : Marker) (r : Result) (payload : List Byte) : Prop :=
  if i ∈ (s.port m.port).discard then
    (t.port m.port).slots = (s.port m.port).slots ∧ (t.port m.port).dup = (s.port m.port).dup
      ∧ (t.port m.port).discard = (s.port m.port).discard.filter (· != i)
  else
    (t.port m.port).discard = (s.port m.port).discard
      ∧ (∀ k : SlotId, k ≠ m.slot → (t.port m.port).slots[k] = (s.port m.port).slots[k])
      ∧ ∀ q f, (s.port m.port).slots[m.slot] = .executing q f →
        (t.port m.port).slots[m.slot] = .answered
          { seq := q.seq, code := q.code, result := r, lapsed := f, duplicate := false, payload := payload }
        ∧ (t.port m.port).dup = (s.port m.port).dup.map (DupStore.fill m.slot { result := r, payload := payload })

/-- A lane has entered TRIPPED, and its cascade has gone down the follow tree in the same event (R85 to R87): a coupled ACTIVE or STOPPING
lane is tripped with cause CASCADE exactly when its parent trips, and takes a TRIPPED report; a resolved, coupled CASCADE lane whose parent
trips is unresolved again, with a report; every other lane stands; the REF entries join the tail in ascending lane order (R164, R165). -/
def TripCascades (s t : State) (root : LaneId) : Prop :=
  ∃ tripped : LaneId → Bool, tripped root = true
    ∧ (∀ j, j ≠ root → (tripped j = true ↔ ∃ m k, s.lane j = some m ∧ cascades m k ∧ tripped k = true))
    ∧ (∀ j m, j ≠ root → s.lane j = some m → tripped j = true → t.lane j = some (trippedRecord .cascade 0 m)
        ∧ ∀ p, (t.port p).attn.lanes[j] = entriesAfter s j [.tripped .cascade 0] p)
    ∧ (∀ j m k n c, j ≠ root → s.lane j = some m → m.mode = .tripped .cascade n true c → m.cfg.coupled = true →
        m.source = .follow k → tripped k.parent = true → t.lane j = some { m with mode := .tripped .cascade 0 false c }
        ∧ ∀ p, (t.port p).attn.lanes[j] = entriesAfter s j [.tripped .cascade 0] p)
    ∧ (∀ j m, j ≠ root → s.lane j = some m → tripped j = false →
        (∀ k n c, m.source = .follow k → m.mode = .tripped .cascade n true c →
          ¬ (m.cfg.coupled = true ∧ tripped k.parent = true)) →
        t.lane j = s.lane j ∧ ∀ p, (t.port p).attn.lanes[j] = (s.port p).attn.lanes[j])
    ∧ (∀ j, s.lane j = none → t.lane j = none)
    ∧ t.frames = s.frames
        ++ (allLanes.filter fun j => tripped j && !s.frames.contains (Entry.mk j .ref)).map fun j => Entry.mk j .ref

/-- A lane follows this one (R78). -/
def follows (s : State) (j i : LaneId) : Prop := ∃ m k, s.lane j = some m ∧ m.source = .follow k ∧ k.parent = i

/-- A lane has left TRIPPED, for ACTIVE or for STANDBY, and its CASCADE followers are resolved down the follow tree in the same event (R88):
an unresolved CASCADE lane with auto resume leaves exactly when its parent leaves, for ACTIVE if its parent went there and HALT is
released, else for STANDBY; RESUMED is reported for ACTIVE alone (R106, R107); one without auto resume stays TRIPPED, resolved; every
other lane stands. -/
def ResolutionCascades (s t : State) (root : LaneId) (toActive : Bool) : Prop :=
  ∃ left : LaneId → Option Bool, left root = some toActive
    ∧ (∀ j b, j ≠ root → (left j = some b ↔ ∃ m k n c a, s.lane j = some m ∧ m.source = .follow k
        ∧ m.mode = .tripped .cascade n false c ∧ m.cfg.autoResume = true ∧ left k.parent = some a ∧ b = (a && !s.haltLevel)))
    ∧ (∀ j m, j ≠ root → s.lane j = some m → left j = some true →
        t.lane j = some { m with mode := .active none .idle, output := 0, track := .blending }
        ∧ ∀ p, (t.port p).attn.lanes[j] = entriesAfter s j [.resumed] p)
    ∧ (∀ j m, j ≠ root → s.lane j = some m → left j = some false →
        t.lane j = some { m with mode := .standby, output := 0, track := .blending }
        ∧ ∀ p, (t.port p).attn.lanes[j] = (s.port p).attn.lanes[j])
    ∧ (∀ j m k n c, j ≠ root → s.lane j = some m → m.source = .follow k → m.mode = .tripped .cascade n false c →
        m.cfg.autoResume = false → left k.parent ≠ none → t.lane j = some { m with mode := .tripped .cascade n true c }
        ∧ ∀ p, (t.port p).attn.lanes[j] = (s.port p).attn.lanes[j])
    ∧ (∀ j m, j ≠ root → s.lane j = some m →
        (∀ k n c, m.source = .follow k → m.mode = .tripped .cascade n false c → left k.parent = none) →
        t.lane j = s.lane j ∧ ∀ p, (t.port p).attn.lanes[j] = (s.port p).attn.lanes[j])
    ∧ ∀ j, s.lane j = none → t.lane j = none

/-! ## The shape of the chains (R78) -/

/-- Depth, height, follower count and descendants are those of R78; a lane counts among its own descendants here. -/
structure DerivedValues (s : State) : Prop where
  depthFixed : ∀ j l, s.lane j = some l → l.source = .fixed → s.depth j = 0
  depthFollow : ∀ j l k, s.lane j = some l → l.source = .follow k → s.depth j = s.depth k.parent + 1
  count : ∀ i, ∃ js : List LaneId, js.Nodup ∧ (∀ j, j ∈ js ↔ follows s j i) ∧ s.followerCount i = js.length
  heightLeaf : ∀ i, (∀ j, ¬ follows s j i) → s.height i = 0
  height : ∀ i, (∃ j, follows s j i) →
    (∀ j, follows s j i → s.height j + 1 ≤ s.height i) ∧ ∃ j, follows s j i ∧ s.height i = s.height j + 1
  under : ∀ i j, s.under i j = true ↔ j = i ∨ ∃ p, follows s j p ∧ s.under i p = true

/-! ## Resets -/

/-- The values that power-on and RESET_N both give (R25, R49, R74, R92, R99, R116, R160, R181, R191), with a port S transaction in progress
abandoned until CS_N is deasserted (R142); what is the environment's stands. -/
structure ResetValues (s t : State) (straps : Straps) : Prop where
  lanes : ∀ i, t.lane i = none
  pool : t.poolFree = 64
  haltLevel : t.haltLevel = false
  haltRun : t.haltRun = 0
  slots : ∀ p (k : SlotId), (t.port p).slots[k] = .free
  order : ∀ p, (t.port p).order = []
  dup : ∀ p, (t.port p).dup = none
  discard : ∀ p, (t.port p).discard = []
  lease : ∀ p, (t.port p).lease = { period := 0, lapsed := false, timer := none }
  attn : ∀ p, (t.port p).attn = AttnSet.empty
  mask : ∀ p (k : Fin 10), (t.port p).mask.getLsbD k = true
  outputs : ∀ p, (t.port p).attnAsserted = false
  served : t.lastServed = .u
  framer : t.framer = .hunt
  gapTimer : t.gapTimer = none
  uTx : t.uTx = .idle
  idleSpi : s.spi = .deselected → t.spi = .deselected
  openSpi : ∀ phase bits, s.spi = .selected phase bits → t.spi = .selected .ignoring []
  misoOut : t.misoOut = []
  straps : t.straps = straps
  link : t.link = .idle
  frames : t.frames = []
  dlde : t.dlde = false
  dltx : ∀ n, t.dltx n = true
  pending : t.pending = s.pending
  haltPin : t.haltPin = s.haltPin
  haltIn : t.haltIn = s.haltIn
  ticks : t.ticks = s.ticks
  urxLow : t.urxLow = s.urxLow
  lineIn : t.lineIn = s.lineIn

/-! ## Codes and layouts (chapter 10) -/

/-- The request codes (section 10.3). -/
def codeTable : List (Byte × Instr) :=
  [(0x10, .defineLane), (0x11, .amendLane), (0x12, .pinLane), (0x13, .retireLane), (0x14, .readLane), (0x15, .findDrive),
    (0x16, .listLanes), (0x20, .start), (0x21, .stop), (0x22, .hold), (0x23, .resume), (0x24, .setPoint), (0x25, .setSource),
    (0x26, .setRatio), (0x27, .clearTrip), (0x30, .appendSegment), (0x31, .runProfile), (0x32, .pauseProfile),
    (0x33, .flushProfile), (0x34, .readProfile), (0x40, .claim), (0x41, .release), (0x42, .setLease), (0x50, .setAttentionMask),
    (0x51, .readAttention), (0x52, .ackAttention), (0x53, .readDevice), (0x54, .nop)]

/-- The results in the order of their codes, 0 first (section 10.3). -/
def resultTable : List Result :=
  [.ok, .unknownRequest, .badField, .badLane, .noLane, .barred, .owned, .key, .laneBusy, .badState, .halted, .pinned,
    .addressTaken, .cycle, .depth, .hasFollowers, .queueFull, .poolFull, .noDrive, .driveFault, .stillTripped]

/-- The lane state codes (section 10.3, Value codes). -/
def laneCode (o : Option Lane) : Nat :=
  match o with
  | none => 0
  | some l =>
    match l.mode with
    | .defining _ => 1
    | .standby => 2
    | .active _ _ => 3
    | .stopping _ => 4
    | .tripped _ _ _ _ => 5

/-- The trip cause codes (section 10.3, Value codes). -/
def causeCode (c : TripCause) : Nat :=
  match c with
  | .drive => 1
  | .link => 2
  | .cascade => 3

/-- The entries of one lane as READ_ATTENTION gives them, in the kind order of R182: lane, kind and flags, detail (section 10.5). -/
def laneEntries (i : LaneId) (a : LaneAttn) : List (List Byte) :=
  (match a.segmentDone with
    | none => []
    | some (tag, more) => [[byteOf i.val, if more then 0x10#8 else 0x00#8, tag]])
  ++ (if a.profileEmpty then [[byteOf i.val, 1#8, 0#8]] else [])
  ++ (if a.locked then [[byteOf i.val, 2#8, 0#8]] else [])
  ++ (if a.stopped then [[byteOf i.val, 3#8, 0#8]] else [])
  ++ (match a.tripped with
    | none => []
    | some (cause, code) => [[byteOf i.val, byteOf (4 + 32 * causeCode cause), byteOf code]])
  ++ (if a.resumed then [[byteOf i.val, 5#8, 0#8]] else [])
  ++ (if a.linkLost then [[byteOf i.val, 6#8, 0#8]] else [])
  ++ (if a.claimDropped then [[byteOf i.val, 7#8, 0#8]] else [])

/-- The entries of a set as READ_ATTENTION gives them, in the order of R186. -/
def setEntries (a : AttnSet) : List (List Byte) :=
  (if a.lapsed then [[255#8, 8#8, 0#8]] else []) ++ (if a.overrun then [[255#8, 9#8, 0#8]] else [])
  ++ (List.finRange 24).flatMap fun i => laneEntries i a.lanes[i]

/-- The rule of the port CRC for one byte (R193 steps 2 and 3). -/
def portCrcStep (r : Half) (b : Byte) : Half :=
  (fun r : Half => if r.getLsbD 15 then (r <<< 1) ^^^ 0x1021#16 else r <<< 1)^[8] (r ^^^ (b.setWidth 16 <<< 8))

/-- The rule of the link CRC for one character (R194 steps 2 and 3). -/
def linkCrcStep (r b : Byte) : Byte :=
  (fun r : Byte => if r.getLsbD 7 then (r <<< 1) ^^^ 0x2F#8 else r <<< 1)^[8] (r ^^^ b)

/-- The bytes of a request frame before its CRC (section 10.2). -/
def requestBody (seq code lane : Byte) (key : Half) (payload : List Byte) : List Byte :=
  [seq, code, lane, key.extractLsb' 8 8, key.extractLsb' 0 8, byteOf payload.length] ++ payload

/-- A body with the port CRC after it, high byte first (section 10.2). -/
def withCrc (body : List Byte) : List Byte := body ++ [(crc16 body).extractLsb' 8 8, (crc16 body).extractLsb' 0 8]

/-- The ranges and the two consistency conditions of R3. -/
def CfgRanges (c : LaneCfg) : Prop :=
  1 ≤ c.address ∧ c.address ≤ 31 ∧ inRange c.lowLimit ∧ inRange c.highLimit ∧ c.lowLimit ≤ c.highLimit
    ∧ 1 ≤ c.slewStep ∧ c.slewStep ≤ 30000 ∧ 1 ≤ c.blendStep ∧ c.blendStep ≤ 30000 ∧ c.blendStep ≤ c.slewStep
    ∧ 1 ≤ c.stopStep ∧ c.stopStep ≤ 30000

/-- The fallback action of an options byte: bits 2 and 3, by the value codes (sections 10.3, 10.4). -/
def fallbackField (options : Byte) (f : Fallback) : Prop :=
  options.toNat / 4 % 4 = match f with
    | .hold => 0
    | .stop => 1
    | .release => 2

/-- The source of a payload, with its kind byte and its follow fields from byte k on (section 10.4); FIXED ignores them (R9). -/
def sourceField (kind : Byte) (pl : List Byte) (k : Nat) (src : Source) : Prop :=
  (kind = 0#8 ∧ src = .fixed)
    ∨ (kind = 1#8 ∧ ∃ link, src = .follow link ∧ LinkOk link ∧ (byteAt pl k).toNat = link.parent.val
        ∧ u16At pl (k + 1) = link.ratio ∧ s16At pl (k + 3) = link.trim
        ∧ byteAt pl (k + 5) = match link.basis with
          | .output => 0#8
          | .feedback => 1#8)

/-- The segment of an APPEND_SEGMENT payload (section 10.4), its fields in range and notify 0 or 1 (R51, R56); the fields of the other kind are
not read. -/
def segmentField (pl : List Byte) (g : Segment) : Prop :=
  (byteAt pl 9).toNat = g.notify.toNat ∧ g.tag = byteAt pl 10 ∧ SegmentOk g
    ∧ ((byteAt pl 0 = 0#8 ∧ g.body = .ramp (s16At pl 1) (u16At pl 3) (u16At pl 5))
      ∨ (byteAt pl 0 = 1#8 ∧ g.body = .dwell (u16At pl 7)))

/-- The characters that a reply is counted to, and its form: an IDENT reply to an IDENT frame, a status reply to any other (R170, R171, R194). -/
def replyShape (k : FrameKind) : Nat × Byte :=
  match k with
  | .ident _ => (9, 0x71#8)
  | .ref => (8, 0x70#8)
  | .clear => (8, 0x70#8)

/-- The conditions of R171 on the characters received: the reply is whole, its CRC, address echo and form match, its drive state is READY,
RUN or TRIP, the trip code fits it, and the feedback is in range. -/
structure ReplyOk (x : Txn) (chars : List Byte) : Prop where
  whole : (replyShape x.kind).1 ≤ chars.length
  crc : crc8 (chars.take ((replyShape x.kind).1 - 1)) = byteAt chars ((replyShape x.kind).1 - 1)
  echo : byteAt chars 0 = byteOf x.address
  form : byteAt chars 1 = (replyShape x.kind).2
  state : (byteAt chars 2).toNat ≤ 2
  tripped : (byteAt chars 2).toNat = 2 → 1 ≤ (byteAt chars 4).toNat ∧ (byteAt chars 4).toNat ≤ 63
  untripped : (byteAt chars 2).toNat < 2 → byteAt chars 4 = 0#8
  feedback : inRange (s16At chars 5)

/-! ## The ports' lines -/

/-- The state after events of the pins, one by one (R142). -/
def lines (s : State) (es : List LineEvent) : State := es.foldl State.line s

/-- The SCK pulses that clock a byte in, most significant bit first (R142). -/
def pulses (b : Byte) : List LineEvent := (List.range 8).map fun k => .sck (b.getLsbD (7 - k))

/-- A port S transaction: CS_N asserted, these bytes clocked in whole, and CS_N deasserted (R142). -/
def transaction (s : State) (bytes : List Byte) : State := lines s (.csAssert :: bytes.flatMap pulses ++ [.csDeassert])

/-- The state after characters arrive at port U one by one (R145). -/
def characters : List Byte → State → State
  | [], s => s
  | b :: bs, s =>
    match exec (.receivedCharacter b) s with
    | .next t => characters bs t
    | .fault _ => s
    | .refused _ => s

/-! ## All the laws -/

/-- The laws together. -/
structure Law (s : State) : Prop where
  lanes : LaneLaw s
  pool : PoolLaw s
  strikes : StrikeLaw s
  slots : SlotLaw s
  lease : LeaseLaw s
  mask : MaskLaw s
  address : AddressLaw s
  tree : TreeLaw s
  transmit : TransmitLaw s
  frames : FrameLaw s
  long : LongLaw s

end Sys2Proof.Safety
end

