-- ==== Sys2Proof/WellFormed.lean ====
section
/-! DEFINITION. Which commands are what their row says: the bytes a command carries fit the event it names. Lane, slot and port
numbers are in range by their types. -/

namespace Sys2Proof

/-- The command's bytes fit its event: GOOD_FRAME a whole frame with a good length and CRC (R140), FRAME_DISCARD none,
WRITE_ABORTED a frame cut before its end (R143), DRIVE_REPLY a reply of 8 or 9 characters (R170). -/
def Instr.wellFormed : Instr → Bool
  | .goodFrame _ bytes => (Machine.parseFrame bytes).isSome
  | .frameDiscard _ bytes => (Machine.parseFrame bytes).isNone
  | .writeAborted bytes => decide (bytes.length < 8 + (Machine.byteAt bytes 5).toNat)
  | .driveReply bytes => decide (8 ≤ bytes.length) && decide (bytes.length ≤ 9)
  | .powerOn _ => true
  | .resetNAssertion _ => true
  | .resetNRelease => true
  | .haltAssertion => true
  | .haltRelease => true
  | .framingError => true
  | .gapTimerExpiry => true
  | .portReset _ => true
  | .readResponse _ => true
  | .responseSendStart => true
  | .responseTransmitted => true
  | .unknownRequest => true
  | .defineLane => true
  | .amendLane => true
  | .pinLane => true
  | .retireLane => true
  | .readLane => true
  | .findDrive => true
  | .listLanes => true
  | .start => true
  | .stop => true
  | .hold => true
  | .resume => true
  | .setPoint => true
  | .setSource => true
  | .setRatio => true
  | .clearTrip => true
  | .appendSegment => true
  | .runProfile => true
  | .pauseProfile => true
  | .flushProfile => true
  | .readProfile => true
  | .claim => true
  | .release => true
  | .setLease => true
  | .setAttentionMask => true
  | .readAttention => true
  | .ackAttention => true
  | .readDevice => true
  | .nop => true
  | .laneUpdate _ => true
  | .leaseExpiry _ => true
  | .transactionStart => true
  | .linkFrameSent => true
  | .replyWindowTimeout => true
  | .replyBroken => true
  | .guardEnd => true
  | .receivedCharacter _ => true
  | .replyBegun => true

end Sys2Proof
end

