-- ==== Sys2Proof/Certificates/Slice0/Obligations.lean ====
section
/-! DEFINITION. The statements for the provers. -/

open Sys2Proof Sys2Proof.Machine Sys2Proof.Safety

/-! ## The step -/

/-- A step runs the command at the front of the queue on the state with the queue's rest. -/
def Obligations.StepRunsFrontCommand : Prop :=
  ∀ (c : Instr) (rest : List Instr) (s : State), s.pending = c :: rest → step s = exec c { s with pending := rest }

/-- On an empty queue, with no pin's event to come, a running part takes one tick of the 1 ms time base (the model's choice, log 2): HALT_N
is sampled and the third opposite sample in a row makes the change of level due (R99), every running timer counts one, and the events
that are due wait in the queue, each once, in an order that is free (log 3). The coming samples stand in a list, past whose end the pin keeps
its level (the model's choice, log 4). A pin's event that is to come is taken first, alone (the model's choice, log 6). -/
def Obligations.EmptyQueueTicks : Prop :=
  (∀ s : State, s.pending = [] → s.lineIn = [] → s.held = false →
    ∃ t, step s = .next t ∧ t.pending.Nodup
      ∧ (∀ c, c ∈ t.pending ↔
          (c = .haltAssertion ∧ s.haltIn.headD s.haltPin = true ∧ s.haltLevel = false ∧ 2 ≤ s.haltRun)
          ∨ (c = .haltRelease ∧ s.haltIn.headD s.haltPin = false ∧ s.haltLevel = true ∧ 2 ≤ s.haltRun)
          ∨ (∃ i l n, c = .laneUpdate i ∧ s.lane i = some l ∧ l.timer = some n ∧ n ≤ 1)
          ∨ (∃ p n, c = .leaseExpiry p ∧ (s.port p).lease.timer = some n ∧ n ≤ 1)
          ∨ (∃ n, c = .gapTimerExpiry ∧ s.gapTimer = some n ∧ n ≤ 1))
      ∧ (∀ i, t.lane i = (s.lane i).map fun l => { l with timer := l.timer.map (· - 1) })
      ∧ (∀ p, t.port p = { s.port p with lease := { (s.port p).lease with timer := (s.port p).lease.timer.map (· - 1) } })
      ∧ t.gapTimer = s.gapTimer.map (· - 1)
      ∧ t.ticks = s.ticks + 1 ∧ t.held = false ∧ t.poolFree = s.poolFree ∧ SameLink s t ∧ t.lastServed = s.lastServed
      ∧ t.framer = s.framer ∧ t.urxLow = s.urxLow ∧ t.uTx = s.uTx ∧ t.spi = s.spi ∧ t.misoOut = s.misoOut ∧ t.lineIn = []
      ∧ t.straps = s.straps ∧ t.haltLevel = s.haltLevel
      ∧ t.haltPin = s.haltIn.headD s.haltPin ∧ t.haltIn = s.haltIn.tail
      ∧ (s.haltIn.headD s.haltPin = s.haltLevel → t.haltRun = 0)
      ∧ (s.haltIn.headD s.haltPin ≠ s.haltLevel → t.haltRun = if s.haltRun < 2 then s.haltRun + 1 else 0))
  ∧ ∀ (s : State) (e : LineEvent) (rest : List LineEvent), s.pending = [] → s.lineIn = e :: rest →
    step s = .next ({ s with lineIn := rest }.line e)

/-- No event stops the part with a fault or a refusal, in any state. That an event which the state rules out leaves the state as it is, and
stops nothing, is the model's choice, log 1. -/
def Obligations.EveryEventCompletes : Prop :=
  ∀ (c : Instr) (s : State), ∃ t, exec c s = .next t

/-- While RESET_N is held, no event but a reset changes anything, and no tick comes (R1). Of the pins, the levels of CS_N and URX alone are
noted, and a transaction that begins there is ignored to its end (R142; the model's choice, log 6). -/
def Obligations.HeldPartTakesNothing : Prop :=
  ∀ s : State, s.held = true →
    (∀ c, (∀ x, c ≠ .powerOn x) → (∀ x, c ≠ .resetNAssertion x) → c ≠ .resetNRelease → exec c s = .next s)
      ∧ (s.pending = [] → s.lineIn = [] → step s = .next s)
      ∧ s.line .csAssert = { s with spi := .selected .ignoring [] } ∧ s.line .csDeassert = { s with spi := .deselected }
      ∧ s.line .urxHigh = { s with urxLow := false } ∧ (∀ b, s.line (.sck b) = s) ∧ s.line .utxCharacter = s

/-! ## Resets and HALT -/

/-- POWER_ON gives every block its power-on values; RESET_N gives the same but keeps each port's strike count and BARRED flag, and
holds the part until its release, which changes nothing else (R1, R25, R49, R74, R92, R99, R116, R139, R160, R181, R191). A port S
transaction in progress is abandoned until CS_N is deasserted (R142), DLDE is deasserted and DLTX high. The model's choices: POWER_ON leaves
RESET_N released (log 15), the straps are operands (log 5), and the queue, the count of ticks, the HALT_N input, the levels of CS_N and URX
and the pins' events to come are the environment's (logs 2, 3, 4, 6). -/
def Obligations.ResetsGiveTheirValues : Prop :=
  (∀ (x : Straps) (s : State), ∃ t, exec (.powerOn x) s = .next t ∧ ResetValues s t x ∧ t.held = false
    ∧ ∀ p, (t.port p).strikes = 0 ∧ (t.port p).barred = false)
  ∧ (∀ (x : Straps) (s : State), ∃ t, exec (.resetNAssertion x) s = .next t ∧ ResetValues s t x ∧ t.held = true
    ∧ ∀ p, (t.port p).strikes = (s.port p).strikes ∧ (t.port p).barred = (s.port p).barred)
  ∧ ∀ s : State, exec .resetNRelease s = .next { s with held := false }

/-- A HALT assertion turns every ACTIVE lane to STOPPING with cause HALT; a release turns none (R100, R101). Neither reaches another lane, a
port, the link or a line: but for the lanes and their segments, the filtered level, the pin at that level and the cleared run of samples
(the model's choice, log 4) are all that changes. -/
def Obligations.HaltStopsActiveLanes : Prop :=
  (∀ s : State, s.held = false → ∃ t, exec .haltAssertion s = .next t
    ∧ t.haltLevel = true ∧ t.haltPin = true ∧ t.haltRun = 0
    ∧ (∀ i, t.lane i = (s.lane i).map fun l => match l.mode with
        | .active _ _ => { l with mode := .stopping .halt, track := .blending, queue := [] }
        | _ => l)
    ∧ (PoolLaw s → PoolLaw t) ∧ SameLink s t ∧ SamePorts s t ∧ SameLinesButHalt s t)
  ∧ ∀ s : State, s.held = false → ∃ t, exec .haltRelease s = .next t
    ∧ t.haltLevel = false ∧ t.haltPin = false ∧ t.haltRun = 0
    ∧ SameTable s t ∧ SameLink s t ∧ SamePorts s t ∧ SameLinesButHalt s t

/-! ## Frames and characters at the ports -/

/-- A good frame that is a duplicate of a frame still unanswered is dropped; one that finds no FREE slot is discarded with an OVERRUN
entry in the port's set, unless it is masked; neither has another effect but on the receiver that took its bytes (R148 steps 1 and 2, R150).
At port S the frame comes while no other transaction is open (log 6). -/
def Obligations.FramesThatTakeNoSlot : Prop :=
  (∀ (s : State) (p : PortId) (bytes : List Byte) (q : Request) (d : DupStore), s.held = false → PortOpen s p →
    parseFrame bytes = some q → (s.port p).dup = some d → d.seq = q.seq → d.crc = q.crc → d.copy = none →
    ∃ t, exec (.goodFrame p bytes) s = .next t ∧ FrameTaken s t p bytes.length ∧ SamePorts s t ∧ SameTable s t ∧ SameLink s t)
  ∧ (∀ (s : State) (p : PortId) (bytes : List Byte) (q : Request), s.held = false → PortOpen s p → parseFrame bytes = some q →
    (∀ k : SlotId, (s.port p).slots[k].isFree = false) →
    (∀ d, (s.port p).dup = some d → d.seq = q.seq → d.crc = q.crc → d.copy ≠ none) →
    ∃ t, exec (.goodFrame p bytes) s = .next t
      ∧ PortButSet (s.port p) (t.port p)
          (if (s.port p).mask.getLsbD 9 then { (s.port p).attn with overrun := true } else (s.port p).attn)
      ∧ t.port (otherPort p) = s.port (otherPort p) ∧ SameTable s t ∧ SameLink s t ∧ FrameTaken s t p bytes.length)

/-- A good frame that is a duplicate of an answered frame takes the lowest FREE slot, which is ANSWERED at once with the copy and the
duplicate flag; the lease restarts, the store stands, and no lane is reached (R148, R150, R127, R133). -/
def Obligations.AnsweredDuplicateTakesCopy : Prop :=
  ∀ (s : State) (p : PortId) (bytes : List Byte) (q : Request) (d : DupStore) (c : Copy) (k : SlotId), s.held = false →
    PortOpen s p → parseFrame bytes = some q → (s.port p).dup = some d → d.seq = q.seq → d.crc = q.crc → d.copy = some c →
    (s.port p).slots[k].isFree = true → (∀ j : SlotId, j < k → (s.port p).slots[j].isFree = false) →
    ∃ t, exec (.goodFrame p bytes) s = .next t
      ∧ (t.port p).slots[k] = .answered
          { seq := q.seq, code := q.code, result := c.result, lapsed := (s.port p).lease.lapsed, duplicate := true
            payload := c.payload }
      ∧ (∀ j : SlotId, j ≠ k → (t.port p).slots[j] = (s.port p).slots[j])
      ∧ (t.port p).order = (s.port p).order ++ [k] ∧ (t.port p).dup = (s.port p).dup
      ∧ (t.port p).lease = { period := (s.port p).lease.period, lapsed := false
                             timer := if (s.port p).lease.period = 0 then none else some (10 * (s.port p).lease.period) }
      ∧ (t.port p).strikes = (s.port p).strikes ∧ (t.port p).barred = (s.port p).barred
      ∧ (t.port p).attn = (s.port p).attn ∧ (t.port p).mask = (s.port p).mask ∧ (t.port p).discard = (s.port p).discard
      ∧ t.port (otherPort p) = s.port (otherPort p) ∧ SameTable s t ∧ SameLink s t ∧ FrameTaken s t p bytes.length

/-- A good frame that is no duplicate takes the lowest FREE slot and is QUEUED there; the slot joins the delivery order, the store
names the frame with no copy, and the lease restarts (R148, R150, R127). That the store says so by the slot is the model's reading, log 10. -/
def Obligations.GoodFrameTakesSlot : Prop :=
  (∀ (s : State) (p : PortId) (bytes : List Byte) (q : Request) (k : SlotId), s.held = false →
    PortOpen s p → parseFrame bytes = some q → (∀ d, (s.port p).dup = some d → ¬ (d.seq = q.seq ∧ d.crc = q.crc)) →
    (s.port p).slots[k].isFree = true → (∀ j : SlotId, j < k → (s.port p).slots[j].isFree = false) →
    ∃ t, exec (.goodFrame p bytes) s = .next t
      ∧ (t.port p).slots[k] = .queued q (s.port p).lease.lapsed
      ∧ (∀ j : SlotId, j ≠ k → (t.port p).slots[j] = (s.port p).slots[j])
      ∧ (t.port p).order = (s.port p).order ++ [k]
      ∧ (t.port p).dup = some { seq := q.seq, crc := q.crc, slot := k, copy := none }
      ∧ (t.port p).lease = { period := (s.port p).lease.period, lapsed := false
                             timer := if (s.port p).lease.period = 0 then none else some (10 * (s.port p).lease.period) }
      ∧ (t.port p).strikes = (s.port p).strikes ∧ (t.port p).barred = (s.port p).barred
      ∧ (t.port p).attn = (s.port p).attn ∧ (t.port p).mask = (s.port p).mask ∧ (t.port p).discard = (s.port p).discard
      ∧ t.port (otherPort p) = s.port (otherPort p) ∧ SameTable s t ∧ SameLink s t ∧ FrameTaken s t p bytes.length)
  ∧ ∀ x : Slot, x.isFree = true ↔ x = .free

/-- A discarded or aborted frame, a framing error and the gap timer's expiry reach no slot, no lease, no set and no lane; at port U
the framer hunts with its gap timer stopped (R140, R143, R145). A port S transaction with another command byte, one cut inside its command
byte, and one abandoned at a reset change nothing and shift out filler (R142, R193). -/
def Obligations.DiscardedFramesReachNothing : Prop :=
  ∀ s : State, s.held = false →
    (∀ bytes, ∃ t, exec (.frameDiscard .u bytes) s = .next t ∧ FrameTaken s t .u bytes.length ∧ SamePorts s t ∧ SameTable s t
        ∧ SameLink s t)
      ∧ (exec .framingError s = .next { s with framer := .hunt, gapTimer := none })
      ∧ (s.gapTimer.isSome → exec .gapTimerExpiry s = .next { s with framer := .hunt, gapTimer := none })
      ∧ (s.spi = .deselected →
        (∀ bytes, exec (.frameDiscard .s bytes) s = .next { s with misoOut := List.replicate (1 + bytes.length) 0xFF#8 }
          ∧ exec (.writeAborted bytes) s = .next { s with misoOut := List.replicate (1 + bytes.length) 0xFF#8 })
        ∧ (∀ b rest, b ∉ [0x3C#8, 0xC3#8, 0x99#8] →
          transaction s (b :: rest) = { s with misoOut := List.replicate (1 + rest.length) 0xFF#8 })
        ∧ (∀ bits : List Bool, bits.length < 8 →
          lines s (.csAssert :: bits.map .sck ++ [.csDeassert]) = { s with misoOut := [] }))
      ∧ ∀ (got bits : List Bool), s.spi = .selected .ignoring got → got.length < 8 →
        lines s (bits.map .sck ++ [.csDeassert])
          = { s with spi := .deselected, misoOut := s.misoOut ++ List.replicate ((got.length + bits.length) / 8) 0xFF#8 }

/-- Characters at port U (R140, R145): in HUNT the start byte opens a frame and any other is discarded; in RECEIVING a length byte above 32
discards the frame, the last CRC byte is the frame's arrival (R148) or its discard, and every other byte joins the frame and restarts the
gap timer with two ticks. After a break no character is taken until URX has returned high (R146). A whole good frame that arrives
character by character, after its start byte, is the arrival of that frame. Bytes clocked into port S after the write-request command byte,
one bit to an SCK pulse, are the arrival of the frame they hold, and its discard if they hold none (R142, R143, R193). -/
def Obligations.CharactersArriveAsFrames : Prop :=
  (∀ (s : State) (b : Byte), s.held = false → s.urxLow = false →
    (s.framer = .hunt → b = 0xA5#8 →
      exec (.receivedCharacter b) s = .next { s with framer := .receiving [], gapTimer := some 2 })
      ∧ (s.framer = .hunt → b ≠ 0xA5#8 → exec (.receivedCharacter b) s = .next s)
      ∧ ∀ got, s.framer = .receiving got →
        (got.length = 5 → 32 < b.toNat → exec (.receivedCharacter b) s = .next { s with framer := .hunt, gapTimer := none })
        ∧ (6 ≤ got.length → got.length + 1 = 8 + (byteAt got 5).toNat →
          exec (.receivedCharacter b) s = exec (.goodFrame .u (got ++ [b])) s
          ∧ (parseFrame (got ++ [b]) = none →
            exec (.receivedCharacter b) s = .next { s with framer := .hunt, gapTimer := none }))
        ∧ ((got.length = 5 → b.toNat ≤ 32) → (6 ≤ got.length → got.length + 1 ≠ 8 + (byteAt got 5).toNat) →
          exec (.receivedCharacter b) s = .next { s with framer := .receiving (got ++ [b]), gapTimer := some 2 }))
  ∧ (∀ (s : State) (b : Byte), s.held = false → s.urxLow = true →
    exec (.receivedCharacter b) s = .next s ∧ s.line .urxHigh = { s with urxLow := false })
  ∧ (∀ (s : State) (bytes : List Byte) (q : Request), s.held = false → s.urxLow = false → s.framer = .hunt →
    parseFrame bytes = some q → bytes.length = 8 + q.payload.length →
    exec (.goodFrame .u bytes) s = .next (characters (0xA5#8 :: bytes) s))
  ∧ ∀ (s : State) (bytes : List Byte), s.held = false → s.spi = .deselected →
    exec (.goodFrame .s bytes) s = .next (transaction s (0x3C#8 :: bytes))
      ∧ (parseFrame bytes = none → exec (.frameDiscard .s bytes) s = .next (transaction s (0x3C#8 :: bytes))
          ∧ exec (.writeAborted bytes) s = .next (transaction s (0x3C#8 :: bytes)))

/-- A port reset frees the slots and empties the delivery order, the duplicate store and the set of its own port, puts the lanes of its
EXECUTING requests on the discard list, makes the lease LIVE and restarts it, and keeps the rest (R158). At port U the framer hunts, and a
transmission stops at the end of the character in progress (R146). A break is taken once: while URX stays low, no second one is taken
(R146). At port S the port-reset command byte, clocked in by itself, is this event, and the rest of its transaction is ignored (R142, R193). -/
def Obligations.PortResetReachesOnePort : Prop :=
  (∀ (s : State) (p : PortId), s.held = false → PortOpen s p → (p = .u → s.urxLow = false) → ∃ t, exec (.portReset p) s = .next t
    ∧ (∀ k : SlotId, (t.port p).slots[k] = .free) ∧ (t.port p).order = [] ∧ (t.port p).dup = none
    ∧ (t.port p).attn = AttnSet.empty ∧ (t.port p).mask = (s.port p).mask
    ∧ (t.port p).strikes = (s.port p).strikes ∧ (t.port p).barred = (s.port p).barred
    ∧ (t.port p).lease = { period := (s.port p).lease.period, lapsed := false
                           timer := if (s.port p).lease.period = 0 then none else some (10 * (s.port p).lease.period) }
    ∧ (∀ i, i ∈ (t.port p).discard ↔ i ∈ (s.port p).discard
        ∨ ∃ (k : SlotId) (q : Request) (f : Bool), (s.port p).slots[k] = .executing q f ∧ laneOf q.lane = some i)
    ∧ t.port (otherPort p) = s.port (otherPort p) ∧ SameTable s t ∧ SameLink s t ∧ t.lastServed = s.lastServed
    ∧ t.pending = s.pending ∧ t.held = s.held ∧ t.haltLevel = s.haltLevel ∧ t.haltPin = s.haltPin ∧ t.haltRun = s.haltRun
    ∧ t.haltIn = s.haltIn ∧ t.ticks = s.ticks ∧ t.straps = s.straps ∧ t.lineIn = s.lineIn ∧ t.spi = s.spi
    ∧ (p = .u → t.framer = .hunt ∧ t.gapTimer = none ∧ t.urxLow = true ∧ t.misoOut = s.misoOut
      ∧ (s.uTx = .idle → t.uTx = .idle) ∧ (∀ k c cs, s.uTx = .sending k (c :: cs) → t.uTx = .stopping c)
      ∧ (∀ c, s.uTx = .stopping c → t.uTx = .stopping c))
    ∧ (p = .s → t.framer = s.framer ∧ t.gapTimer = s.gapTimer ∧ t.urxLow = s.urxLow ∧ t.uTx = s.uTx ∧ t.misoOut = [0xFF#8]
      ∧ ∀ rest, transaction s (0x99#8 :: rest) = { t with misoOut := List.replicate (1 + rest.length) 0xFF#8 }))
  ∧ ∀ s : State, s.held = false → s.urxLow = true → exec (.portReset .u) s = .next s

/-- A port S read-response shifts out the head response after its lead byte, as far as it is clocked, and delivers it when its last byte has
gone; a partial read and the EMPTY marker change no slot (R144, R193). The bytes clocked in after the read-response command byte are that
event, and the levels of MISO over a byte's pulses are the bits of the byte shifted out, most significant first (R142). The idle port U
transmitter sends the head response after the start byte, character after character, and the end of sending delivers it and leaves the
transmitter idle (R147; log 7); a transmission that a break has cut ends with its character and delivers nothing (R146). UTX shows a
character's start bit, its bits from the least significant, and its stop bit (R145); that a start bit is low and an idle line high is the
model's, log 19. The head
response is the one in the first slot of the delivery order, when that slot is ANSWERED (R149). -/
def Obligations.ResponsesAreDelivered : Prop :=
  (∀ (s : State) (n : Nat), s.held = false → s.spi = .deselected →
    (∀ k r, s.portS.headResponse = some (k, r) → 1 + (responseBytes r).length ≤ n →
      ∃ t, exec (.readResponse n) s = .next t
        ∧ t.misoOut = 0xFF#8 :: 0xA5#8 :: (responseBytes r ++ List.replicate (n - 1 - (responseBytes r).length) 0xFF#8)
        ∧ t.portS.slots[k] = .free ∧ t.portS.order = s.portS.order.filter (· != k)
        ∧ (∀ j : SlotId, j ≠ k → t.portS.slots[j] = s.portS.slots[j])
        ∧ t = { s with misoOut := t.misoOut, portS := { s.portS with slots := t.portS.slots, order := t.portS.order } })
      ∧ (∀ k r, s.portS.headResponse = some (k, r) → n < 1 + (responseBytes r).length →
        exec (.readResponse n) s = .next { s with misoOut := 0xFF#8 :: (0xA5#8 :: responseBytes r).take n })
      ∧ (s.portS.headResponse = none → 1 ≤ n →
        exec (.readResponse n) s = .next { s with misoOut := 0xFF#8 :: 0x00#8 :: List.replicate (n - 1) 0xFF#8 })
      ∧ ∀ rest : List Byte, rest.length = n → exec (.readResponse n) s = .next (transaction s (0xC3#8 :: rest)))
  ∧ (∀ (s : State) (phase : SpiPhase) (b : Byte), s.held = false → s.spi = .selected phase [] →
    ∃ x, (lines s (pulses b)).misoOut = s.misoOut ++ [x]
      ∧ ∀ k < 8, (lines s ((pulses b).take k)).miso = some (x.getLsbD (7 - k)))
  ∧ (∀ (s : State) (k : SlotId) (r : Response), s.held = false → s.uTx = .idle → s.portU.headResponse = some (k, r) →
    exec .responseSendStart s = .next { s with uTx := .sending k (0xA5#8 :: responseBytes r) })
  ∧ (∀ (s : State) (k : SlotId) (cs : List Byte), s.held = false → s.uTx = .sending k cs →
    (∃ t, exec .responseTransmitted s = .next t ∧ t.uTx = .idle ∧ t.portU.slots[k] = .free
      ∧ t.portU.order = s.portU.order.filter (· != k) ∧ (∀ j : SlotId, j ≠ k → t.portU.slots[j] = s.portU.slots[j])
      ∧ t = { s with uTx := .idle, portU := { s.portU with slots := t.portU.slots, order := t.portU.order } })
    ∧ (∀ c d rest, cs = c :: d :: rest → s.line .utxCharacter = { s with uTx := .sending k (d :: rest) })
    ∧ (∀ c rest, cs = c :: rest → s.utx 0 = false ∧ (∀ j < 8, s.utx (1 + j) = c.getLsbD j) ∧ s.utx 9 = true))
  ∧ (∀ s : State, s.held = false →
    (∀ c, s.uTx = .stopping c → exec .responseTransmitted s = .next { s with uTx := .idle }
        ∧ s.line .utxCharacter = { s with uTx := .idle }
        ∧ s.utx 0 = false ∧ (∀ j < 8, s.utx (1 + j) = c.getLsbD j) ∧ ∀ n, 9 ≤ n → s.utx n = true)
      ∧ (s.uTx = .idle → ∀ n, s.utx n = true))
  ∧ ∀ (p : Port) (k : SlotId) (r : Response),
    p.headResponse = some (k, r) ↔ p.slots[k] = .answered r ∧ ∃ rest, p.order = k :: rest

/-! ## The arbiter and the check order -/

/-- The arbiter chooses a port's QUEUED slot with the earliest arrival, and with work at both ports the port not served last (R151). -/
def Obligations.ArbiterIsRoundRobin : Prop :=
  (∀ s : State,
    (∀ c, s.choice = some c → (s.port c.port).slots[c.slot] = .queued c.req c.lapsed
      ∧ ∃ before after, (s.port c.port).order = before ++ c.slot :: after
        ∧ ∀ k ∈ before, ∀ q f, (s.port c.port).slots[k] ≠ .queued q f)
      ∧ ∀ p, (∃ k q f, k ∈ (s.port p).order ∧ (s.port p).slots[k] = .queued q f) →
        (p ≠ s.lastServed ∨ ∀ k ∈ (s.port (otherPort p)).order, ∀ q f, (s.port (otherPort p)).slots[k] ≠ .queued q f) →
        ∃ c, s.choice = some c ∧ c.port = p)
  ∧ otherPort .s = .u ∧ otherPort .u = .s

/-- Steps 1 and 2 (R153, R192): the 28 codes of section 10.3 name their requests, and any other gives UNKNOWN_REQUEST; a payload of a length
that the request does not allow, or with a reserved bit that is not 0, gives BAD_FIELD; no other effect. -/
def Obligations.CodeAndShapeAreChecked : Prop :=
  ((∀ x ∈ codeTable, rowOfCode x.1 = x.2) ∧ ∀ b : Byte, (∀ x ∈ codeTable, x.1 ≠ b) → rowOfCode b = .unknownRequest)
  ∧ (∀ (s : State) (c : Ctx), Serves s c .unknownRequest →
    ∃ t, exec .unknownRequest s = .next t ∧ OnlyAnswered s t c (s.port c.port) .unknownRequest [])
  ∧ (∀ (row : Instr) (s : State) (c : Ctx), row ∈ laneRows ++ deviceRows → Serves s c row → ¬ shapeOk row c.req.payload →
    ∃ t, exec row s = .next t ∧ OnlyAnswered s t c (s.port c.port) .badField [])

/-- Step 3 (R154): a request that addresses a lane needs a lane field of 0 to 23, one that names none needs 255, else BAD_LANE and no
other effect; with the right lane field no lane named in the payload gives BAD_LANE. A request that names no lane never meets steps 4 to
7: it is not answered BARRED, OWNED, KEY or LANE_BUSY, the strikes stand, and its key makes no difference at all. -/
def Obligations.LaneFieldIsChecked : Prop :=
  (∀ (b : Byte) (i : LaneId), laneOf b = some i ↔ b.toNat = i.val)
  ∧ ∀ (row : Instr) (s : State) (c : Ctx), Serves s c row → shapeOk row c.req.payload →
    (row ∈ laneRows → 24 ≤ c.req.lane.toNat →
      ∃ t, exec row s = .next t ∧ OnlyAnswered s t c (s.port c.port) .badLane [])
      ∧ (row ∈ deviceRows → c.req.lane.toNat ≠ 255 →
        ∃ t, exec row s = .next t ∧ OnlyAnswered s t c (s.port c.port) .badLane [])
      ∧ ((row ∈ laneRows → c.req.lane.toNat < 24) → (row ∈ deviceRows → c.req.lane.toNat = 255) → row ∈ laneRows ++ deviceRows →
        ∃ t, exec row s = .next t ∧ ∀ x, (t.port c.port).slots[c.slot] = .answered x → x.result ≠ .badLane)
      ∧ (row ∈ deviceRows →
        (∃ t, exec row s = .next t ∧ (t.port c.port).strikes = (s.port c.port).strikes
          ∧ (t.port c.port).barred = (s.port c.port).barred
          ∧ ∃ x, (t.port c.port).slots[c.slot] = .answered x ∧ x.result ∉ [Result.barred, .owned, .key, .laneBusy])
        ∧ ∀ key, exec row (s.modPort c.port fun p => p.setSlot c.slot (.queued { c.req with key := key } c.lapsed)) = exec row s)

/-- Step 4 (R153): a request that addresses a VACANT lane, other than DEFINE_LANE and READ_LANE, gives NO_LANE. Step 7 (R7): a changing
request that passes steps 5 and 6 for a lane with a pending operation gives LANE_BUSY, the strikes cleared by the right key (R124). No
other effect. A lane holds a pending operation in DEFINING, and in TRIPPED while it waits for a CLEAR (R6). -/
def Obligations.VacantAndBusyLanesAreRefused : Prop :=
  (∀ (row : Instr) (s : State) (c : Ctx) (i : LaneId), row ∈ laneRows → row ≠ .defineLane → row ≠ .readLane → Serves s c row →
    shapeOk row c.req.payload → laneOf c.req.lane = some i → s.lane i = none →
    ∃ t, exec row s = .next t ∧ OnlyAnswered s t c (s.port c.port) .noLane [])
  ∧ (∀ (row : Instr) (s : State) (c : Ctx) (i : LaneId) (l : Lane), row ∈ changingRows → Serves s c row →
    shapeOk row c.req.payload → laneOf c.req.lane = some i → s.lane i = some l →
    keyPasses s c (decide (row = .claim)) l → l.mode.isPending = true →
    ∃ t, exec row s = .next t ∧ OnlyAnswered s t c (afterKey l (s.port c.port)) .laneBusy [])
  ∧ ∀ m : Mode, m.isPending = true ↔ (∃ k, m = .defining k) ∨ ∃ c n r k, m = .tripped c n r (some k)

/-- Steps 5 and 6 (R123, R124): on an owned lane a BARRED port gets BARRED, the other port OWNED, and the owner with another key KEY with
one strike more, which makes the port BARRED at 5; a BARRED port cannot claim an unowned lane. No other effect. -/
def Obligations.KeyCheckRefuses : Prop :=
  (∀ (row : Instr) (s : State) (c : Ctx) (i : LaneId) (l : Lane) (cl : Claim), row ∈ changingRows → Serves s c row →
    shapeOk row c.req.payload → laneOf c.req.lane = some i → s.lane i = some l → l.claim = some cl →
    ∃ t, exec row s = .next t
      ∧ ((s.port c.port).barred = true → OnlyAnswered s t c (s.port c.port) .barred [])
      ∧ ((s.port c.port).barred = false → cl.port ≠ c.port → OnlyAnswered s t c (s.port c.port) .owned [])
      ∧ ((s.port c.port).barred = false → cl.port = c.port → cl.key ≠ c.req.key →
          OnlyAnswered s t c
            { s.port c.port with strikes := (s.port c.port).strikes + 1, barred := decide (5 ≤ (s.port c.port).strikes + 1) }
            .key []))
  ∧ ∀ (s : State) (c : Ctx) (i : LaneId) (l : Lane), Serves s c .claim → c.req.payload.length = 0 →
    laneOf c.req.lane = some i → s.lane i = some l → l.claim = none → (s.port c.port).barred = true →
    ∃ t, exec .claim s = .next t ∧ OnlyAnswered s t c (s.port c.port) .barred []

/-- A refused request, whatever its row, leaves the table, the pool, the link, the list, the leases and the sets as they were; of the ports
it reaches its own slot, the copy in the duplicate store, the strike count and the BARRED flag alone (R155). The store
takes the copy when it names the frame that is answered, and has none yet (R150; that it names it by the slot is log 10). -/
def Obligations.RefusedRequestChangesNothingElse : Prop :=
  (∀ (row : Instr) (s t : State) (c : Ctx) (x : Response), row ∈ .unknownRequest :: (laneRows ++ deviceRows) → Serves s c row →
    exec row s = .next t → (t.port c.port).slots[c.slot] = .answered x → x.result ≠ .ok →
    x.payload = [] ∧ x.seq = c.req.seq ∧ x.code = c.req.code
      ∧ ∃ n b, OnlyAnswered s t c { s.port c.port with strikes := n, barred := b } x.result [])
  ∧ ∀ (k : SlotId) (c : Copy) (d : DupStore),
    (d.slot = k → d.copy = none → DupStore.fill k c d = { d with copy := some c })
      ∧ (d.slot ≠ k ∨ d.copy ≠ none → DupStore.fill k c d = d)

/-! ## The requests that change a lane -/

/-- SET_POINT (R41): a value in range is written as given. SET_RATIO (R84): a FOLLOW lane takes the ratio, the trim, and the basis if it is
given; a FIXED lane gives BAD_STATE. A value out of range gives BAD_FIELD. Nothing else changes. -/
def Obligations.SetPointAndRatioWriteValues : Prop :=
  (∀ (s : State) (c : Ctx) (i : LaneId) (l : Lane), Serves s c .setPoint → c.req.payload.length = 2 → Reaches s c i l false →
    ∃ t, exec .setPoint s = .next t
      ∧ (inRange (s16At c.req.payload 0) → LaneDone s t c i l { l with setPoint := s16At c.req.payload 0 })
      ∧ (¬ inRange (s16At c.req.payload 0) → OnlyAnswered s t c (afterKey l (s.port c.port)) .badField []))
  ∧ (∀ (s : State) (c : Ctx) (i : LaneId) (l : Lane), Serves s c .setRatio → shapeOk .setRatio c.req.payload →
    Reaches s c i l false →
    ∃ t, exec .setRatio s = .next t
      ∧ (l.source = .fixed → OnlyAnswered s t c (afterKey l (s.port c.port)) .badState [])
      ∧ (∀ k, l.source = .follow k →
          ¬ (u16At c.req.payload 0 ≤ 16383 ∧ -3000 ≤ s16At c.req.payload 2 ∧ s16At c.req.payload 2 ≤ 3000) →
          OnlyAnswered s t c (afterKey l (s.port c.port)) .badField [])
      ∧ (∀ k, l.source = .follow k → u16At c.req.payload 0 ≤ 16383 → -3000 ≤ s16At c.req.payload 2 →
          s16At c.req.payload 2 ≤ 3000 →
          LaneDone s t c i l { l with
            source := .follow {
              parent := k.parent, ratio := u16At c.req.payload 0, trim := s16At c.req.payload 2
              basis := if (byteAt c.req.payload 4).getLsbD 7 then
                (if (byteAt c.req.payload 4).getLsbD 0 then .feedback else .output) else k.basis } }))

/-- START (R94, R95, R60): the checks in their order, and the entry to ACTIVE, with the profile run if it is asked for and loaded. -/
def Obligations.StartEntersActive : Prop :=
  ∀ (s : State) (c : Ctx) (i : LaneId) (l : Lane), Serves s c .start → c.req.payload.length = 1 → Reaches s c i l false →
    ∃ t, exec .start s = .next t
      ∧ (l.mode ≠ .standby → OnlyAnswered s t c (afterKey l (s.port c.port)) .badState [])
      ∧ (l.mode = .standby → s.haltLevel = true → OnlyAnswered s t c (afterKey l (s.port c.port)) .halted [])
      ∧ (l.mode = .standby → s.haltLevel = false → 1 < (byteAt c.req.payload 0).toNat →
          OnlyAnswered s t c (afterKey l (s.port c.port)) .badField [])
      ∧ (l.mode = .standby → s.haltLevel = false → (byteAt c.req.payload 0).toNat ≤ 1 → l.view = none →
          OnlyAnswered s t c (afterKey l (s.port c.port)) .noDrive [])
      ∧ (∀ v, l.mode = .standby → s.haltLevel = false → (byteAt c.req.payload 0).toNat ≤ 1 → l.view = some v → v.state = .trip →
          OnlyAnswered s t c (afterKey l (s.port c.port)) .driveFault [])
      ∧ (∀ v, l.mode = .standby → s.haltLevel = false → l.view = some v → v.state ≠ .trip →
          ((byteAt c.req.payload 0).toNat = 0 ∨ (byteAt c.req.payload 0).toNat = 1 ∧ l.queue = [] →
            LaneDone s t c i l { l with mode := .active none .idle, track := .blending })
          ∧ (∀ g rest, (byteAt c.req.payload 0).toNat = 1 → l.queue = g :: rest →
            LaneDone s t c i l { l with mode := .active none (.running l.output g.started), track := .blending }))

/-- STOP (R96, R97): an ACTIVE lane enters STOPPING with its profile flushed and its output kept; STOPPING and STANDBY are answered OK
unchanged. HOLD takes the held value from the output and pauses a RUNNING profile; RESUME removes the held value and sets BLENDING (R44,
R46, R68). The other states give BAD_STATE. -/
def Obligations.StopHoldResume : Prop :=
  (∀ (s : State) (c : Ctx) (i : LaneId) (l : Lane), Serves s c .stop → c.req.payload.length = 0 → Reaches s c i l false →
    ∃ t, exec .stop s = .next t
      ∧ (∀ h r, l.mode = .active h r →
          LaneDone s t c i l { l with mode := .stopping .command, track := .blending, queue := [] })
      ∧ ((∃ k, l.mode = .stopping k) ∨ l.mode = .standby → LaneDone s t c i l l)
      ∧ (∀ k n b m, l.mode = .tripped k n b m → OnlyAnswered s t c (afterKey l (s.port c.port)) .badState []))
  ∧ (∀ (s : State) (c : Ctx) (i : LaneId) (l : Lane), c.req.payload.length = 0 → Reaches s c i l false →
    (Serves s c .hold → ∃ t, exec .hold s = .next t
      ∧ (∀ v p, l.mode = .active none (.running v p) →
          LaneDone s t c i l { l with mode := .active (some l.output) (.paused v p) })
      ∧ (∀ r, l.mode = .active none r → (∀ v p, r ≠ .running v p) →
          LaneDone s t c i l { l with mode := .active (some l.output) r })
      ∧ (∀ h r, l.mode = .active (some h) r → LaneDone s t c i l l)
      ∧ ((∀ h r, l.mode ≠ .active h r) → OnlyAnswered s t c (afterKey l (s.port c.port)) .badState []))
      ∧ (Serves s c .resume → ∃ t, exec .resume s = .next t
      ∧ (∀ h r, l.mode = .active (some h) r → LaneDone s t c i l { l with mode := .active none r, track := .blending })
      ∧ (∀ r, l.mode = .active none r → LaneDone s t c i l l)
      ∧ ((∀ h r, l.mode ≠ .active h r) → OnlyAnswered s t c (afterKey l (s.port c.port)) .badState [])))

/-- SET_SOURCE (R42, R43, R81 to R83): to FIXED, the link is discarded, and an ACTIVE lane that followed is BLENDING; to FOLLOW, the
structure checks in their order, the link written, and BLENDING on an ACTIVE lane that is given another parent. A lane tripped by an
unresolved CASCADE gives BAD_STATE; a kind byte above 1, and with FOLLOW a parent byte above 23, a basis byte above 1, or a ratio or trim out
of range, BAD_FIELD (R81). Depth, height, follower count and descendants, by which the structure is checked, are those of R78. -/
def Obligations.SetSourceSwitchesSource : Prop :=
  (∀ (s : State) (c : Ctx) (i : LaneId) (l : Lane), Serves s c .setSource → c.req.payload.length = 7 → Reaches s c i l false →
    ∃ t, exec .setSource s = .next t
      ∧ (∀ n m, l.mode = .tripped .cascade n false m → OnlyAnswered s t c (afterKey l (s.port c.port)) .badState [])
      ∧ ((∀ n m, l.mode ≠ .tripped .cascade n false m) → (byteAt c.req.payload 0).toNat = 0 →
          ((∀ h r, l.mode = .active h r → ∀ k, l.source = .follow k →
              LaneDone s t c i l { l with source := .fixed, track := .blending })
            ∧ ((∀ h r, l.mode ≠ .active h r) ∨ l.source = .fixed → LaneDone s t c i l { l with source := .fixed })))
      ∧ ((∀ n m, l.mode ≠ .tripped .cascade n false m) → 2 ≤ (byteAt c.req.payload 0).toNat →
          OnlyAnswered s t c (afterKey l (s.port c.port)) .badField [])
      ∧ ((∀ n m, l.mode ≠ .tripped .cascade n false m) → (byteAt c.req.payload 0).toNat = 1 →
          24 ≤ (byteAt c.req.payload 1).toNat ∨ 2 ≤ (byteAt c.req.payload 6).toNat →
          OnlyAnswered s t c (afterKey l (s.port c.port)) .badField []))
  ∧ (∀ (s : State) (c : Ctx) (i : LaneId) (l : Lane) (k : FollowLink), Serves s c .setSource → c.req.payload.length = 7 →
    Reaches s c i l false → (∀ n m, l.mode ≠ .tripped .cascade n false m) → (byteAt c.req.payload 0).toNat = 1 →
    laneOf (byteAt c.req.payload 1) = some k.parent → u16At c.req.payload 2 = k.ratio → s16At c.req.payload 4 = k.trim →
    (byteAt c.req.payload 6).toNat = k.basis.code →
    ∃ t, exec .setSource s = .next t
      ∧ (¬ LinkOk k → OnlyAnswered s t c (afterKey l (s.port c.port)) .badField [])
      ∧ (LinkOk k → s.under i k.parent = true → OnlyAnswered s t c (afterKey l (s.port c.port)) .cycle [])
      ∧ (LinkOk k → s.under i k.parent = false → s.lane k.parent = none →
          OnlyAnswered s t c (afterKey l (s.port c.port)) .noLane [])
      ∧ (∀ p m, LinkOk k → s.under i k.parent = false → s.lane k.parent = some p → p.mode = .defining m →
          OnlyAnswered s t c (afterKey l (s.port c.port)) .badState [])
      ∧ (∀ p, LinkOk k → s.under i k.parent = false → s.lane k.parent = some p → (∀ m, p.mode ≠ .defining m) →
          4 < s.depth k.parent + 1 + s.height i → OnlyAnswered s t c (afterKey l (s.port c.port)) .depth [])
      ∧ (∀ p, LinkOk k → s.under i k.parent = false → s.lane k.parent = some p → (∀ m, p.mode ≠ .defining m) →
          s.depth k.parent + 1 + s.height i ≤ 4 →
          ((∀ h r, l.mode = .active h r → (∀ k', l.source = .follow k' → k'.parent ≠ k.parent) →
              LaneDone s t c i l { l with source := .follow k, track := .blending })
            ∧ ((∀ h r, l.mode ≠ .active h r) ∨ (∃ k', l.source = .follow k' ∧ k'.parent = k.parent) →
              LaneDone s t c i l { l with source := .follow k }))))
  ∧ (Basis.output.code = 0 ∧ Basis.feedback.code = 1)
  ∧ ∀ s : State, TreeLaw s → DerivedValues s

/-- APPEND_SEGMENT (R56, R57): an in-range segment joins the tail and takes a pool slot; the queue check comes before the pool check. The
segment is read from the payload with the fields of its kind, the others ignored; a kind or a notify above 1, or a field of the kind out of
range, gives BAD_FIELD (R51, R192, section 10.4). -/
def Obligations.AppendTakesPoolSlot : Prop :=
  (∀ (s : State) (c : Ctx) (i : LaneId) (l : Lane), Serves s c .appendSegment → c.req.payload.length = 11 →
    Reaches s c i l false →
    ∃ t, exec .appendSegment s = .next t
      ∧ (l.mode ≠ .standby → (∀ h r, l.mode ≠ .active h r) → OnlyAnswered s t c (afterKey l (s.port c.port)) .badState [])
      ∧ (l.mode = .standby ∨ (∃ h r, l.mode = .active h r) →
          (segmentOf c.req.payload = none → OnlyAnswered s t c (afterKey l (s.port c.port)) .badField [])
          ∧ ∀ g, segmentOf c.req.payload = some g →
            (12 ≤ l.queue.length → OnlyAnswered s t c (afterKey l (s.port c.port)) .queueFull [])
            ∧ (l.queue.length < 12 → s.poolFree = 0 → OnlyAnswered s t c (afterKey l (s.port c.port)) .poolFull [])
            ∧ (l.queue.length < 12 → 1 ≤ s.poolFree →
                LaneDone s t c i l { l with queue := l.queue ++ [g] } ∧ t.poolFree + 1 = s.poolFree)))
  ∧ (∀ (e : Int) (peak accel n : Nat) (b : Bool) (tag : Byte) (x y z : Half),
    (inRange e → 1 ≤ peak → peak ≤ 30000 → accel ≤ 4095 →
      segmentOf (0x00#8 :: (s16Bytes e ++ u16Bytes peak ++ u16Bytes accel ++ halfBytes x ++ [byteOf b.toNat, tag]))
        = some { body := .ramp e peak accel, notify := b, tag := tag })
      ∧ (1 ≤ n → n ≤ 65535 →
        segmentOf (0x01#8 :: (halfBytes x ++ halfBytes y ++ halfBytes z ++ u16Bytes n ++ [byteOf b.toNat, tag]))
          = some { body := .dwell n, notify := b, tag := tag }))
  ∧ (∀ (pl : List Byte) (g : Segment), segmentOf pl = some g ↔ segmentField pl g)
  ∧ queueLen none = 0 ∧ ∀ l : Lane, queueLen (some l) = l.queue.length

/-- RUN_PROFILE, PAUSE_PROFILE and FLUSH_PROFILE (R58, R59, R66). A head is started with its accel or its peak
rate, or with its count (R61). -/
def Obligations.ProfileRunRequests : Prop :=
  (∀ (s : State) (c : Ctx) (i : LaneId) (l : Lane), c.req.payload.length = 0 → Reaches s c i l false →
    (Serves s c .runProfile → ∃ t, exec .runProfile s = .next t
      ∧ ((∀ r, l.mode ≠ .active none r) ∨ l.queue = [] → OnlyAnswered s t c (afterKey l (s.port c.port)) .badState [])
      ∧ (∀ g rest, l.mode = .active none .idle → l.queue = g :: rest →
          LaneDone s t c i l { l with mode := .active none (.running l.output g.started) })
      ∧ (∀ v p, l.mode = .active none (.paused v p) → l.queue ≠ [] →
          LaneDone s t c i l { l with mode := .active none (.running v p) })
      ∧ (∀ v p, l.mode = .active none (.running v p) → l.queue ≠ [] → LaneDone s t c i l l))
      ∧ (Serves s c .pauseProfile → ∃ t, exec .pauseProfile s = .next t
      ∧ (∀ h v p, l.mode = .active h (.running v p) → LaneDone s t c i l { l with mode := .active h (.paused v p) })
      ∧ (∀ h v p, l.mode = .active h (.paused v p) → LaneDone s t c i l l)
      ∧ ((∀ h v p, l.mode ≠ .active h (.running v p) ∧ l.mode ≠ .active h (.paused v p)) →
          OnlyAnswered s t c (afterKey l (s.port c.port)) .badState []))
      ∧ (Serves s c .flushProfile → ∃ t, exec .flushProfile s = .next t
      ∧ (∀ h v p, l.mode = .active h (.running v p) ∨ l.mode = .active h (.paused v p) →
          LaneDone s t c i l { l with mode := .active h .idle, track := .blending, queue := [] })
      ∧ ((∀ h v p, l.mode ≠ .active h (.running v p) ∧ l.mode ≠ .active h (.paused v p)) →
          LaneDone s t c i l { l with queue := [] })))
  ∧ ∀ g : Segment, (∀ e peak accel, g.body = .ramp e peak accel → 1 ≤ accel → accel ≤ peak → g.started = .rate accel)
    ∧ (∀ e peak accel, g.body = .ramp e peak accel → accel = 0 ∨ peak < accel → g.started = .rate peak)
    ∧ ∀ n, g.body = .dwell n → g.started = .count n

/-- PIN_LANE sets the pinned flag (R19). CLAIM gives an unowned lane to the port with the frame's key, which must not be 0, and changes
nothing on a lane the port owns; RELEASE removes the claim (R119 to R121). Nothing else changes. -/
def Obligations.PinClaimRelease : Prop :=
  (∀ (s : State) (c : Ctx) (i : LaneId) (l : Lane), Serves s c .pinLane → c.req.payload.length = 0 → Reaches s c i l false →
    ∃ t, exec .pinLane s = .next t ∧ LaneDone s t c i l { l with pinned := true })
  ∧ (∀ (s : State) (c : Ctx) (i : LaneId) (l : Lane), c.req.payload.length = 0 →
    (Serves s c .claim → Reaches s c i l true → ∃ t, exec .claim s = .next t
      ∧ (l.claim = none → c.req.key ≠ 0#16 →
          LaneDone s t c i l { l with claim := some { port := c.port, key := c.req.key } })
      ∧ (l.claim = none → c.req.key = 0#16 → OnlyAnswered s t c (s.port c.port) .badField [])
      ∧ (l.claim ≠ none → LaneDone s t c i l l))
      ∧ (Serves s c .release → Reaches s c i l false →
        ∃ t, exec .release s = .next t ∧ LaneDone s t c i l { l with claim := none }))

/-- AMEND_LANE (R15 to R18): the checks in their order, and the named fields written in one event. A changed address drops the view and the
miss count and makes a transaction in flight for the lane stale; a named update period restarts the timer. (That naming the address
already held changes nothing is the model's reading, log 9.) The mask's bits name the fields, and the fields stand where section 10.4 says; a
field not named keeps its value and is not read. The ranges are those of R3, and an address is taken when another lane that is not VACANT
holds it (R5). -/
def Obligations.AmendWritesNamedFields : Prop :=
  (∀ (s : State) (c : Ctx) (i : LaneId) (l : Lane), Serves s c .amendLane → shapeOk .amendLane c.req.payload →
    Reaches s c i l false →
    ∃ t, exec .amendLane s = .next t
      ∧ (u16At c.req.payload 0 = 0 → LaneDone s t c i l l)
      ∧ ((amendMask c.req.payload).getLsbD 0 = true → l.mode ≠ .standby →
          OnlyAnswered s t c (afterKey l (s.port c.port)) .badState [])
      ∧ (((amendMask c.req.payload).getLsbD 0 = true → l.mode = .standby) → l.pinned = true →
          (∃ k : Fin 10, k ≠ 7 ∧ (amendMask c.req.payload).getLsbD k = true) →
          OnlyAnswered s t c (afterKey l (s.port c.port)) .pinned [])
      ∧ (u16At c.req.payload 0 ≠ 0 → ((amendMask c.req.payload).getLsbD 0 = true → l.mode = .standby) →
          (l.pinned = true → ∀ k : Fin 10, k ≠ 7 → (amendMask c.req.payload).getLsbD k = false) →
          ((∀ cfg, amendCfg c.req.payload l.cfg = some cfg → cfgOk cfg = false) →
            OnlyAnswered s t c (afterKey l (s.port c.port)) .badField [])
          ∧ ∀ cfg, amendCfg c.req.payload l.cfg = some cfg → cfgOk cfg = true →
            ((amendMask c.req.payload).getLsbD 0 = true ∧ s.addressHeld i cfg.address = true →
              OnlyAnswered s t c (afterKey l (s.port c.port)) .addressTaken [])
            ∧ (¬ ((amendMask c.req.payload).getLsbD 0 = true ∧ s.addressHeld i cfg.address = true) →
              WritesLane s t i (some { l with
                cfg := cfg
                timer := if (amendMask c.req.payload).getLsbD 1 then some (2 ^ cfg.periodCode.val) else l.timer
                view := if cfg.address = l.cfg.address then l.view else none
                misses := if cfg.address = l.cfg.address then l.misses else 0 })
              ∧ Answered t c (afterKey l (s.port c.port)) .ok []
              ∧ t.port (otherPort c.port) = s.port (otherPort c.port) ∧ t.frames = s.frames
              ∧ t.link = (if cfg.address = l.cfg.address then s.link else s.link.markStale i) ∧ SameLines s t)))
  ∧ (∀ (s : State) (i : LaneId) (a : Nat), s.addressHeld i a = true ↔ ∃ j l, j ≠ i ∧ s.lane j = some l ∧ l.cfg.address = a)
  ∧ (∀ (i : LaneId) (x : Txn) (cs : List Byte) (b : Bool),
    (Link.sending x cs).markStale i = .sending (if x.lane = i then { x with stale := true } else x) cs
      ∧ (Link.awaiting x b).markStale i = .awaiting (if x.lane = i then { x with stale := true } else x) b
      ∧ Link.idle.markStale i = .idle ∧ Link.guarding.markStale i = .guarding)
  ∧ (∀ (pl : List Byte) (k : Nat), k < 16 → (amendMask pl).getLsbD k = (u16At pl 0).testBit k)
  ∧ (∀ (pl : List Byte) (c cfg : LaneCfg), amendCfg pl c = some cfg ↔
    cfg.address = (if (u16At pl 0).testBit 0 then (byteAt pl 2).toNat % 32 else c.address)
    ∧ cfg.periodCode.val = (if (u16At pl 0).testBit 1 then (byteAt pl 2).toNat / 32 else c.periodCode.val)
    ∧ cfg.lowLimit = (if (u16At pl 0).testBit 2 then s16At pl 3 else c.lowLimit)
    ∧ cfg.highLimit = (if (u16At pl 0).testBit 3 then s16At pl 5 else c.highLimit)
    ∧ cfg.slewStep = (if (u16At pl 0).testBit 4 then u16At pl 7 else c.slewStep)
    ∧ cfg.blendStep = (if (u16At pl 0).testBit 5 then u16At pl 9 else c.blendStep)
    ∧ cfg.stopStep = (if (u16At pl 0).testBit 6 then u16At pl 11 else c.stopStep)
    ∧ cfg.autoResume = (if (u16At pl 0).testBit 7 then (byteAt pl 13).getLsbD 0 else c.autoResume)
    ∧ (if (u16At pl 0).testBit 8 then fallbackField (byteAt pl 13) cfg.fallback else cfg.fallback = c.fallback)
    ∧ cfg.coupled = (if (u16At pl 0).testBit 9 then (byteAt pl 13).getLsbD 1 else c.coupled))
  ∧ ∀ cfg : LaneCfg, cfgOk cfg = true ↔ CfgRanges cfg

/-- RETIRE_LANE (R21, R22): the checks in their order, and the entry to VACANT: the record, its segments, its pending entries and its entries
in both sets go, and a transaction in flight for it is stale. -/
def Obligations.RetireMakesVacant : Prop :=
  ∀ (s : State) (c : Ctx) (i : LaneId) (l : Lane), Serves s c .retireLane → c.req.payload.length = 0 → Reaches s c i l false →
    ∃ t, exec .retireLane s = .next t
      ∧ (l.mode ≠ .standby → OnlyAnswered s t c (afterKey l (s.port c.port)) .badState [])
      ∧ (l.mode = .standby → l.pinned = true → OnlyAnswered s t c (afterKey l (s.port c.port)) .pinned [])
      ∧ (l.mode = .standby → l.pinned = false → 1 ≤ s.followerCount i →
          OnlyAnswered s t c (afterKey l (s.port c.port)) .hasFollowers [])
      ∧ (l.mode = .standby → l.pinned = false → s.followerCount i = 0 →
          WritesLane s t i none ∧ t.frames = s.frames.filter (fun e => e.lane != i) ∧ t.link = s.link.markStale i
          ∧ Answered t c { afterKey l (s.port c.port) with attn := (s.port c.port).attn.onLane i fun _ => LaneAttn.empty } .ok []
          ∧ PortButSet (s.port (otherPort c.port)) (t.port (otherPort c.port))
              ((s.port (otherPort c.port)).attn.onLane i fun _ => LaneAttn.empty)
          ∧ SameLines s t)

/-- DEFINE_LANE (R9 to R11): on a VACANT lane, the field check, the structure checks in their order, and the DEFINING record with its IDENT
entry at the tail; the slot waits. A lane in service gives BAD_STATE. The fields stand where section 10.4 says, a period code of 6 or 7, a
fallback code of 3 and a source kind above 1 give none, and the follow fields of a FIXED source are not read. An address is taken when
another lane that is not VACANT holds it (R5). -/
def Obligations.DefineMakesDefining : Prop :=
  (∀ (s : State) (c : Ctx) (i : LaneId), Serves s c .defineLane → shapeOk .defineLane c.req.payload →
    laneOf c.req.lane = some i →
    ∃ t, exec .defineLane s = .next t
      ∧ (∀ l, s.lane i = some l → keyPasses s c false l → l.mode.isPending = false →
          OnlyAnswered s t c (afterKey l (s.port c.port)) .badState [])
      ∧ (s.lane i = none →
          ((∀ cfg src, defineCfg c.req.payload = some cfg → sourceAt (byteAt c.req.payload 12) c.req.payload 15 = some src →
              cfgOk cfg = false ∨ ¬ inRange (s16At c.req.payload 13)) →
            OnlyAnswered s t c (s.port c.port) .badField [])
          ∧ ∀ cfg src, defineCfg c.req.payload = some cfg → sourceAt (byteAt c.req.payload 12) c.req.payload 15 = some src →
            cfgOk cfg = true → inRange (s16At c.req.payload 13) →
            (s.addressHeld i cfg.address = true → OnlyAnswered s t c (s.port c.port) .addressTaken [])
            ∧ (s.addressHeld i cfg.address = false →
              (∀ k, src = .follow k → k.parent = i → OnlyAnswered s t c (s.port c.port) .cycle [])
              ∧ (∀ k, src = .follow k → k.parent ≠ i → s.lane k.parent = none →
                OnlyAnswered s t c (s.port c.port) .noLane [])
              ∧ (∀ k p m, src = .follow k → k.parent ≠ i → s.lane k.parent = some p → p.mode = .defining m →
                OnlyAnswered s t c (s.port c.port) .badState [])
              ∧ (∀ k p, src = .follow k → k.parent ≠ i → s.lane k.parent = some p → (∀ m, p.mode ≠ .defining m) →
                4 < s.depth k.parent + 1 → OnlyAnswered s t c (s.port c.port) .depth [])
              ∧ ((∀ k, src = .follow k → k.parent ≠ i ∧ s.depth k.parent + 1 ≤ 4
                    ∧ ∃ p, s.lane k.parent = some p ∧ ∀ m, p.mode ≠ .defining m) →
                WritesLane s t i (some
                  { cfg := cfg, pinned := false, driveType := none, source := src, setPoint := s16At c.req.payload 13
                    output := 0, track := .blending, queue := [], claim := none, view := none, misses := 0
                    mode := .defining { port := c.port, slot := c.slot }, timer := none })
                ∧ t.frames = s.frames ++ [{ lane := i, kind := .ident 1 }] ∧ t.link = s.link
                ∧ Waits t c (s.port c.port) ∧ t.port (otherPort c.port) = s.port (otherPort c.port) ∧ SameLines s t))))
  ∧ (∀ (s : State) (i : LaneId) (a : Nat), s.addressHeld i a = true ↔ ∃ j l, j ≠ i ∧ s.lane j = some l ∧ l.cfg.address = a)
  ∧ (∀ (pl : List Byte) (cfg : LaneCfg), defineCfg pl = some cfg ↔
    cfg.address = (byteAt pl 0).toNat % 32 ∧ cfg.periodCode.val = (byteAt pl 0).toNat / 32
    ∧ cfg.lowLimit = s16At pl 1 ∧ cfg.highLimit = s16At pl 3
    ∧ cfg.slewStep = u16At pl 5 ∧ cfg.blendStep = u16At pl 7 ∧ cfg.stopStep = u16At pl 9
    ∧ cfg.autoResume = (byteAt pl 11).getLsbD 0 ∧ cfg.coupled = (byteAt pl 11).getLsbD 1 ∧ fallbackField (byteAt pl 11) cfg.fallback)
  ∧ (∀ (kind : Byte) (pl : List Byte) (k : Nat) (src : Source), sourceAt kind pl k = some src ↔ sourceField kind pl k src)
  ∧ ∀ cfg : LaneCfg, cfgOk cfg = true ↔ CfgRanges cfg

/-- CLEAR_TRIP (R109, R110): a resolved lane goes to STANDBY in the event; an unresolved DRIVE lane takes a pending CLEAR and a CLEAR entry,
and the slot waits; unresolved CASCADE and lanes not TRIPPED give BAD_STATE, unresolved LINK NO_DRIVE. -/
def Obligations.ClearTripTakesItsPath : Prop :=
  ∀ (s : State) (c : Ctx) (i : LaneId) (l : Lane), LaneLaw s → Serves s c .clearTrip → c.req.payload.length = 0 →
    Reaches s c i l false →
    ∃ t, exec .clearTrip s = .next t
      ∧ ((∀ k n b m, l.mode ≠ .tripped k n b m) ∨ (∃ n m, l.mode = .tripped .cascade n false m) →
          OnlyAnswered s t c (afterKey l (s.port c.port)) .badState [])
      ∧ (∀ n m, l.mode = .tripped .link n false m → OnlyAnswered s t c (afterKey l (s.port c.port)) .noDrive [])
      ∧ (∀ n m, l.mode = .tripped .drive n false m →
          WritesLane s t i (some { l with mode := .tripped .drive n false (some { port := c.port, slot := c.slot }) })
          ∧ t.frames = s.frames ++ [{ lane := i, kind := .clear }] ∧ t.link = s.link
          ∧ Waits t c (afterKey l (s.port c.port)) ∧ t.port (otherPort c.port) = s.port (otherPort c.port) ∧ SameLines s t)
      ∧ (∀ k n m, l.mode = .tripped k n true m →
          t.lane i = some { l with mode := .standby, output := 0, track := .blending }
          ∧ Answered t c (afterKey l (s.port c.port)) .ok []
          ∧ t.port (otherPort c.port) = s.port (otherPort c.port) ∧ t.frames = s.frames ∧ t.link = s.link
          ∧ t.poolFree = s.poolFree ∧ SameLines s t)

/-! ## The requests that name no lane, and the reads -/

/-- NOP, READ_DEVICE, LIST_LANES, READ_ATTENTION and FIND_DRIVE answer from the state and change nothing but their own slot and the
duplicate store's copy (R24, R157, R186). -/
def Obligations.ReadsChangeNothing : Prop :=
  (∀ (s : State) (c : Ctx), c.req.lane = 255#8 →
    (Serves s c .nop → c.req.payload.length = 0 →
      ∃ t, exec .nop s = .next t ∧ OnlyAnswered s t c (s.port c.port) .ok [])
    ∧ (Serves s c .readDevice → c.req.payload.length = 0 →
      ∃ t, exec .readDevice s = .next t ∧ OnlyAnswered s t c (s.port c.port) .ok
        [0x21#8, byteOf s.poolFree, byteOf s.haltLevel.toNat,
          byteOf (s.portS.lease.lapsed.toNat + 2 * s.portS.barred.toNat + 4 * s.portS.strikes), byteOf s.portS.lease.period,
          byteOf (s.portU.lease.lapsed.toNat + 2 * s.portU.barred.toNat + 4 * s.portU.strikes), byteOf s.portU.lease.period])
    ∧ (Serves s c .listLanes → c.req.payload.length = 0 →
      ∃ t pl, exec .listLanes s = .next t ∧ OnlyAnswered s t c (s.port c.port) .ok pl ∧ pl.length = 24
        ∧ ∀ i : LaneId, byteAt pl i = byteOf (laneCode (s.lane i)))
    ∧ (Serves s c .readAttention → c.req.payload.length = 0 →
      ∃ t, exec .readAttention s = .next t ∧ OnlyAnswered s t c (s.port c.port) .ok
        (byteOf (setEntries (s.port c.port).attn).length :: byteOf (min 8 (setEntries (s.port c.port).attn).length)
          :: ((setEntries (s.port c.port).attn).take 8).flatten)))
  ∧ (∀ (s : State) (c : Ctx), AddressLaw s → Serves s c .findDrive → c.req.payload.length = 1 → c.req.lane = 255#8 →
    ∃ t, exec .findDrive s = .next t
      ∧ ((byteAt c.req.payload 0).toNat < 1 ∨ 31 < (byteAt c.req.payload 0).toNat →
          OnlyAnswered s t c (s.port c.port) .badField [])
      ∧ (1 ≤ (byteAt c.req.payload 0).toNat → (byteAt c.req.payload 0).toNat ≤ 31 →
          (∀ i l, s.lane i = some l → l.cfg.address = (byteAt c.req.payload 0).toNat →
            OnlyAnswered s t c (s.port c.port) .ok [byteOf i.val])
          ∧ ((∀ i l, s.lane i = some l → l.cfg.address ≠ (byteAt c.req.payload 0).toNat) →
            OnlyAnswered s t c (s.port c.port) .noLane [])))

/-- READ_LANE (R23, R48, R78, R91, R180, R192, section 10.5): 32 bytes that report the record, every field by its code and every absent field as
0, and nothing changes. -/
def Obligations.ReadLaneReportsRecord : Prop :=
  ∀ (s : State) (c : Ctx) (i : LaneId), Serves s c .readLane → c.req.payload.length = 0 → laneOf c.req.lane = some i →
    ∃ t pl, exec .readLane s = .next t ∧ OnlyAnswered s t c (s.port c.port) .ok pl ∧ pl.length = 32
      ∧ (byteAt pl 31).toNat = i.val
      ∧ (s.lane i = none → ∀ k < 31, byteAt pl k = 0#8)
      ∧ ∀ l, s.lane i = some l → LaneOk l →
        (byteAt pl 0).toNat % 8 = laneCode (some l)
        ∧ (byteAt pl 0).getLsbD 3 = l.pinned
        ∧ (byteAt pl 0).getLsbD 4 = decide (l.track = .locked)
        ∧ (∀ h r, l.mode = .active (some h) r → (byteAt pl 0).getLsbD 5 = true ∧ s16At pl 23 = h)
        ∧ ((∀ h r, l.mode ≠ .active (some h) r) → (byteAt pl 0).getLsbD 5 = false ∧ byteAt pl 23 = 0#8 ∧ byteAt pl 24 = 0#8)
        ∧ (l.source = .fixed → (byteAt pl 0).getLsbD 6 = false ∧ (byteAt pl 0).getLsbD 7 = false
            ∧ ∀ k, 16 ≤ k → k ≤ 20 → byteAt pl k = 0#8)
        ∧ (∀ k, l.source = .follow k → (byteAt pl 0).getLsbD 6 = true ∧ (byteAt pl 0).getLsbD 7 = decide (k.basis = .feedback)
            ∧ (byteAt pl 16).toNat = k.parent.val ∧ u16At pl 17 = k.ratio ∧ s16At pl 19 = k.trim)
        ∧ (byteAt pl 1).toNat = l.cfg.address + 32 * l.cfg.periodCode.val
        ∧ (∀ ty, l.driveType = some ty → byteAt pl 2 = ty) ∧ (l.driveType = none → byteAt pl 2 = 0#8)
        ∧ s16At pl 3 = l.cfg.lowLimit ∧ s16At pl 5 = l.cfg.highLimit
        ∧ u16At pl 7 = l.cfg.slewStep ∧ u16At pl 9 = l.cfg.blendStep ∧ u16At pl 11 = l.cfg.stopStep
        ∧ (byteAt pl 13).getLsbD 0 = l.cfg.autoResume ∧ (byteAt pl 13).getLsbD 1 = l.cfg.coupled
        ∧ fallbackField (byteAt pl 13) l.cfg.fallback
        ∧ (byteAt pl 13).getLsbD 4 = l.claim.isSome ∧ (byteAt pl 13).getLsbD 5 = decide (l.claim.map Claim.port = some .u)
        ∧ (byteAt pl 13).toNat / 64 = l.misses
        ∧ s16At pl 14 = l.setPoint
        ∧ s16At pl 21 = l.output
        ∧ (∀ m, l.mode = .defining m → byteAt pl 25 = if m.port = .u then 0xA0#8 else 0x20#8)
        ∧ (l.mode = .standby ∨ (∃ h r, l.mode = .active h r) → byteAt pl 25 = 0#8)
        ∧ (∀ k, l.mode = .stopping k → byteAt pl 25 = match k with
          | .command => 1#8
          | .halt => 2#8
          | .lapse => 3#8)
        ∧ (∀ k n res m, l.mode = .tripped k n res m → (byteAt pl 25).toNat % 4 = 0
            ∧ (byteAt pl 25).toNat / 4 % 4 = causeCode k
            ∧ (byteAt pl 25).getLsbD 4 = res
            ∧ (m = none → (byteAt pl 25).toNat / 32 = 0)
            ∧ (∀ x, m = some x → (byteAt pl 25).toNat / 32 % 4 = 2 ∧ (byteAt pl 25).getLsbD 7 = decide (x.port = .u))
            ∧ (byteAt pl 26).toNat % 64 = n)
        ∧ ((∀ k n res m, l.mode ≠ .tripped k n res m) → (byteAt pl 26).toNat % 64 = 0)
        ∧ (byteAt pl 26).getLsbD 6 = l.view.isSome
        ∧ (l.view = none → (byteAt pl 26).getLsbD 7 = false ∧ byteAt pl 27 = 0#8 ∧ byteAt pl 28 = 0#8 ∧ byteAt pl 29 = 0#8)
        ∧ (∀ v, l.view = some v → (byteAt pl 26).getLsbD 7 = v.atRef ∧ (byteAt pl 27).toNat % 64 = v.tripCode
            ∧ (byteAt pl 27).toNat / 64 = (match v.state with
              | .ready => 0
              | .run => 1
              | .trip => 2)
            ∧ s16At pl 28 = v.feedback)
        ∧ (s.depth i < 8 → (byteAt pl 30).toNat = s.depth i + 8 * s.followerCount i)

/-- READ_PROFILE (R70, section 10.5): the run state, the queue's length and head kind, the pool, and up to four segments from the start
position, each with all its fields; nothing changes. The head-kind bit of an empty queue is the model's reading (log 13) and is left out here. -/
def Obligations.ReadProfileReportsQueue : Prop :=
  ∀ (s : State) (c : Ctx) (i : LaneId) (l : Lane), Serves s c .readProfile → c.req.payload.length = 1 →
    laneOf c.req.lane = some i → s.lane i = some l →
    ∃ t, exec .readProfile s = .next t
      ∧ (11 < (byteAt c.req.payload 0).toNat → OnlyAnswered s t c (s.port c.port) .badField [])
      ∧ ((byteAt c.req.payload 0).toNat ≤ 11 → LaneOk l → s.poolFree ≤ 64 →
          ∃ pl, OnlyAnswered s t c (s.port c.port) .ok pl
            ∧ pl.length = 8 + 6 * min 4 (l.queue.length - (byteAt c.req.payload 0).toNat)
            ∧ (byteAt pl 0).toNat / 8 = l.queue.length
            ∧ (∀ g rest, l.queue = g :: rest → (byteAt pl 0).getLsbD 2 = (match g.body with
              | .ramp _ _ _ => false
              | .dwell _ => true))
            ∧ (byteAt pl 1).toNat = s.poolFree
            ∧ (∀ h v p, l.mode = .active h (.running v p) ∨ l.mode = .active h (.paused v p) →
                s16At pl 4 = v ∧ u16At pl 2 = (match p with
                  | .notStarted => 0
                  | .rate n => n
                  | .count n => n))
            ∧ (∀ h v p, l.mode = .active h (.running v p) → (byteAt pl 0).toNat % 4 = 1)
            ∧ (∀ h v p, l.mode = .active h (.paused v p) → (byteAt pl 0).toNat % 4 = 2)
            ∧ ((∀ h v p, l.mode ≠ .active h (.running v p) ∧ l.mode ≠ .active h (.paused v p)) →
                (byteAt pl 0).toNat % 4 = 0 ∧ u16At pl 2 = 0 ∧ s16At pl 4 = 0)
            ∧ (∀ n < 4, l.queue[(byteAt c.req.payload 0).toNat + n]? = none → u16At pl 6 / 16 ^ n % 16 = 0)
            ∧ ∀ n g, l.queue[(byteAt c.req.payload 0).toNat + n]? = some g → n < 4 →
              (byteAt pl (8 + 6 * n + 4)) = g.tag ∧ (byteAt pl (8 + 6 * n + 2)).getLsbD 7 = g.notify
              ∧ (∀ e p a, g.body = .ramp e p a → s16At pl (8 + 6 * n) = e ∧ u16At pl (8 + 6 * n + 2) % 32768 = p
                  ∧ (byteAt pl (8 + 6 * n + 5)).toNat = a % 256 ∧ u16At pl 6 / 16 ^ n % 16 = a / 256)
              ∧ (∀ m, g.body = .dwell m → u16At pl (8 + 6 * n) = m ∧ u16At pl (8 + 6 * n + 2) % 32768 = 0
                  ∧ byteAt pl (8 + 6 * n + 5) = 0#8 ∧ u16At pl 6 / 16 ^ n % 16 = 0))

/-- SET_LEASE (R128): its lane field and length, and its effect by the lease state, on its own port alone; a LAPSED port's timer stays
stopped until the next frame that takes a slot restarts it with the new period. -/
def Obligations.SetLeaseActsOnOwnPort : Prop :=
  ∀ (s : State) (c : Ctx), Serves s c .setLease →
    ∃ t, exec .setLease s = .next t
      ∧ (c.req.payload.length ≠ 1 → OnlyAnswered s t c (s.port c.port) .badField [])
      ∧ (c.req.payload.length = 1 → c.req.lane ≠ 255#8 → OnlyAnswered s t c (s.port c.port) .badLane [])
      ∧ (c.req.payload.length = 1 → c.req.lane = 255#8 →
          (∀ n, (byteAt c.req.payload 0).toNat = n → (s.port c.port).lease.lapsed = false → 1 ≤ n →
            OnlyAnswered s t c { s.port c.port with lease := { period := n, lapsed := false, timer := some (10 * n) } } .ok [])
          ∧ ((byteAt c.req.payload 0).toNat = 0 → (s.port c.port).lease.lapsed = false →
            OnlyAnswered s t c { s.port c.port with lease := { period := 0, lapsed := false, timer := none } } .ok [])
          ∧ (∀ n, (byteAt c.req.payload 0).toNat = n → (s.port c.port).lease.lapsed = true → (s.port c.port).lease.timer = none →
            OnlyAnswered s t c { s.port c.port with lease := { period := n, lapsed := true, timer := none } } .ok []
            ∧ ∀ bytes u, exec (.goodFrame c.port bytes) t = .next u → (u.port c.port).order ≠ (t.port c.port).order →
              (u.port c.port).lease = { period := n, lapsed := false, timer := if n = 0 then none else some (10 * n) }))

/-- SET_ATTENTION_MASK (R188): the mask takes the new value, the entries of masked kinds go, the count left is answered. ACK_ATTENTION
(R187): pairs that name no kind, or a kind with the wrong lane value, give BAD_FIELD; else each named entry goes, the others stay, and the
counts removed and left are answered. The other port is not reached. -/
def Obligations.MaskAndAckRemoveEntries : Prop :=
  (∀ (s : State) (c : Ctx) (m : BitVec 10), Serves s c .setAttentionMask → c.req.payload.length = 2 → c.req.lane = 255#8 →
    u16At c.req.payload 0 = m.toNat →
    ∃ t a, exec .setAttentionMask s = .next t
      ∧ OnlyAnswered s t c { s.port c.port with mask := m, attn := a } .ok [byteOf (setEntries a).length]
      ∧ a.lapsed = (m.getLsbD 8 && (s.port c.port).attn.lapsed) ∧ a.overrun = (m.getLsbD 9 && (s.port c.port).attn.overrun)
      ∧ ∀ i : LaneId, a.lanes[i] =
        { segmentDone := if m.getLsbD 0 then (s.port c.port).attn.lanes[i].segmentDone else none
          profileEmpty := m.getLsbD 1 && (s.port c.port).attn.lanes[i].profileEmpty
          locked := m.getLsbD 2 && (s.port c.port).attn.lanes[i].locked
          stopped := m.getLsbD 3 && (s.port c.port).attn.lanes[i].stopped
          tripped := if m.getLsbD 4 then (s.port c.port).attn.lanes[i].tripped else none
          resumed := m.getLsbD 5 && (s.port c.port).attn.lanes[i].resumed
          linkLost := m.getLsbD 6 && (s.port c.port).attn.lanes[i].linkLost
          claimDropped := m.getLsbD 7 && (s.port c.port).attn.lanes[i].claimDropped })
  ∧ (∀ a b : Byte, pairOk a b = true ↔ (b.toNat ≤ 7 ∧ a.toNat ≤ 23) ∨ ((b = 8#8 ∨ b = 9#8) ∧ a = 255#8))
  ∧ (∀ (a b : Byte) (rest : List Byte), ackPairs (a :: b :: rest) = (a, b) :: ackPairs rest) ∧ ackPairs [] = []
  ∧ (∀ (s : State) (c : Ctx), Serves s c .ackAttention → shapeOk .ackAttention c.req.payload → c.req.lane = 255#8 →
    ∃ t, exec .ackAttention s = .next t
      ∧ ((∃ x ∈ ackPairs c.req.payload, pairOk x.1 x.2 = false) → OnlyAnswered s t c (s.port c.port) .badField [])
      ∧ ((∀ x ∈ ackPairs c.req.payload, pairOk x.1 x.2 = true) →
          ∃ a, OnlyAnswered s t c { s.port c.port with attn := a } .ok
              [byteOf ((setEntries (s.port c.port).attn).length - (setEntries a).length), byteOf (setEntries a).length]
            ∧ (a.lapsed = true ↔ (s.port c.port).attn.lapsed = true ∧ (255#8, 8#8) ∉ ackPairs c.req.payload)
            ∧ (a.overrun = true ↔ (s.port c.port).attn.overrun = true ∧ (255#8, 9#8) ∉ ackPairs c.req.payload)
            ∧ ∀ i : LaneId,
              a.lanes[i].profileEmpty
                = ((s.port c.port).attn.lanes[i].profileEmpty && !decide ((byteOf i.val, 1#8) ∈ ackPairs c.req.payload))
              ∧ a.lanes[i].locked = ((s.port c.port).attn.lanes[i].locked && !decide ((byteOf i.val, 2#8) ∈ ackPairs c.req.payload))
              ∧ a.lanes[i].stopped
                = ((s.port c.port).attn.lanes[i].stopped && !decide ((byteOf i.val, 3#8) ∈ ackPairs c.req.payload))
              ∧ a.lanes[i].resumed
                = ((s.port c.port).attn.lanes[i].resumed && !decide ((byteOf i.val, 5#8) ∈ ackPairs c.req.payload))
              ∧ a.lanes[i].linkLost
                = ((s.port c.port).attn.lanes[i].linkLost && !decide ((byteOf i.val, 6#8) ∈ ackPairs c.req.payload))
              ∧ a.lanes[i].claimDropped
                = ((s.port c.port).attn.lanes[i].claimDropped && !decide ((byteOf i.val, 7#8) ∈ ackPairs c.req.payload))
              ∧ a.lanes[i].tripped =
                (if (byteOf i.val, 4#8) ∈ ackPairs c.req.payload then none else (s.port c.port).attn.lanes[i].tripped)
              ∧ a.lanes[i].segmentDone =
                (if (byteOf i.val, 0#8) ∈ ackPairs c.req.payload then none else (s.port c.port).attn.lanes[i].segmentDone)))

/-! ## Updates and lease expiry -/

/-- The follow value in its four steps, with the six rows of the rule's table (R77), from the parent value by the follow basis as the
parent stands at the follower's own ACTIVE update (R76); that update moves the output toward the follow value clamped to the follower's
limits. -/
def Obligations.FollowValueIsFourSteps : Prop :=
  ((∀ (k : FollowLink) (v : Int),
    k.value v = max (-30000) (min 30000 ((if 0 ≤ v then v * k.ratio / 4096 else -((-v) * k.ratio / 4096)) + k.trim)))
  ∧ (∀ (s : State) (l : Lane) (k : FollowLink), l.source = .follow k → s.baseDemand l = k.value (s.parentValue k))
  ∧ (∀ (r : Nat) (x v y : Int), (v, r, x, y) ∈
      [(5000, 4300, 0, 5249), (-5000, 4300, 0, -5249), (5000, 4096, 200, 5200), (0, 4300, 200, 200),
        (30000, 16383, 0, 30000), (100, 0, -3000, -3000)] →
      ({ parent := 0, ratio := r, trim := x, basis := .output } : FollowLink).value v = y))
  ∧ (∀ (s : State) (k : FollowLink) (p : Lane), s.lane k.parent = some p →
    (k.basis = .output → s.parentValue k = p.output)
      ∧ (∀ v, k.basis = .feedback → p.view = some v → s.parentValue k = v.feedback)
      ∧ (k.basis = .feedback → p.view = none → s.parentValue k = p.output))
  ∧ (∀ (s : State) (i : LaneId) (l : Lane) (k : FollowLink) (n : Nat), s.held = false → s.lane i = some l → l.timer = some n →
    l.mode = .active none .idle → l.source = .follow k → l.cfg.lowLimit ≤ l.cfg.highLimit →
    ∃ t m, exec (.laneUpdate i) s = .next t ∧ t.lane i = some m
      ∧ m.output = moveToward l.output (max l.cfg.lowLimit (min l.cfg.highLimit (k.value (s.parentValue k)))) (l.cfg.cap l.track))

/-- An update of an ACTIVE lane is its five stages and nothing else (R27, R29, R30, R32 to R34, R40, R26): demand by rank, clamp, one
bounded move, lock; the timer reloads, the REF entry is handed on, and no other lane is reached. The base demand of a FIXED lane is its
set point (R31). -/
def Obligations.ActiveUpdateIsFiveStages : Prop :=
  (∀ (s : State) (i : LaneId) (l : Lane) (n : Nat) (held : Option Int) (run : Run) (st : Stage) (d : Int) (cap : Nat),
    s.held = false → s.lane i = some l → l.timer = some n → l.mode = .active held run →
    st = advanceHead run l.queue l.track →
    (∀ h, held = some h → d = max l.cfg.lowLimit (min l.cfg.highLimit h)) →
    (∀ v p, held = none → st.run = .running v p ∨ st.run = .paused v p → d = max l.cfg.lowLimit (min l.cfg.highLimit v)) →
    (held = none → st.run = .idle → d = max l.cfg.lowLimit (min l.cfg.highLimit (s.baseDemand l))) →
    l.cfg.lowLimit ≤ l.cfg.highLimit →
    cap = (if st.track = .blending then l.cfg.blendStep else l.cfg.slewStep) →
    ∃ t out, exec (.laneUpdate i) s = .next t
      ∧ ((d - l.output).natAbs ≤ cap → out = d)
      ∧ (cap < (d - l.output).natAbs → l.output < d → out = l.output + cap)
      ∧ (cap < (d - l.output).natAbs → d < l.output → out = l.output - cap)
      ∧ UpdateDone s t i
          { l with mode := .active held st.run, queue := st.queue, output := out
                   track := if st.track = .blending ∧ out = d then .locked else st.track
                   timer := some (2 ^ l.cfg.periodCode.val) }
          (st.reports ++ if st.track = .blending ∧ out = d then [.locked] else []))
  ∧ ∀ (s : State) (l : Lane), l.source = .fixed → s.baseDemand l = l.setPoint

/-- Stage 1 of an update of a RUNNING lane (R61 to R65): a RAMP head is started if it was not, then moved by its rate, or completed at its
end value; a DWELL head counts down and completes at 0 with the value kept; a completion reports SEGMENT_DONE if the segment asks for it,
and the last one drains: IDLE, BLENDING and PROFILE_EMPTY. A PAUSED or IDLE profile is left as it is (R29, R54). -/
def Obligations.HeadAdvancesAndCompletes : Prop :=
  (∀ (e : Int) (peak accel : Nat) (notify : Bool) (tag : Byte) (v : Int) (p : Progress) (rate : Nat) (rest : List Segment)
    (tr : Track),
    p = .rate rate ∨ (p = .notStarted ∧ rate = if 1 ≤ accel ∧ accel ≤ peak then accel else peak) →
    ((e - v).natAbs ≤ rate → advanceHead (.running v p) ({ body := .ramp e peak accel, notify := notify, tag := tag } :: rest) tr
        = completeHead { body := .ramp e peak accel, notify := notify, tag := tag } rest e tr)
      ∧ (rate < (e - v).natAbs →
        advanceHead (.running v p) ({ body := .ramp e peak accel, notify := notify, tag := tag } :: rest) tr
        = { run := .running (if v < e then v + rate else v - rate) (.rate (min (rate + accel) peak))
            queue := { body := .ramp e peak accel, notify := notify, tag := tag } :: rest, track := tr, reports := [] }))
  ∧ (∀ (n : Nat) (notify : Bool) (tag : Byte) (v : Int) (p : Progress) (m : Nat) (rest : List Segment) (tr : Track),
    p = .count m ∨ (p = .notStarted ∧ m = n) → 1 ≤ m →
    (m = 1 → advanceHead (.running v p) ({ body := .dwell n, notify := notify, tag := tag } :: rest) tr
        = completeHead { body := .dwell n, notify := notify, tag := tag } rest v tr)
      ∧ (2 ≤ m → advanceHead (.running v p) ({ body := .dwell n, notify := notify, tag := tag } :: rest) tr
        = { run := .running v (.count (m - 1)), queue := { body := .dwell n, notify := notify, tag := tag } :: rest
            track := tr, reports := [] }))
  ∧ (∀ (g : Segment) (v : Int) (tr : Track),
    (∀ h rest, completeHead g (h :: rest) v tr
      = { run := .running v .notStarted, queue := h :: rest, track := tr
          reports := if g.notify then [.segmentDone g.tag] else [] })
      ∧ completeHead g [] v tr
        = { run := .idle, queue := [], track := .blending
            reports := (if g.notify then [.segmentDone g.tag] else []) ++ [.profileEmpty] })
  ∧ ∀ (queue : List Segment) (tr : Track),
    (∀ v p, advanceHead (.paused v p) queue tr = { run := .paused v p, queue := queue, track := tr, reports := [] })
      ∧ advanceHead .idle queue tr = { run := .idle, queue := queue, track := tr, reports := [] }

/-- An update of a STOPPING lane (R38, R98): the output moves to 0 by at most the stop step, and at 0 the lane is STANDBY and STOPPED is
reported; an update of a STANDBY or TRIPPED lane changes no field but the timer (R27). -/
def Obligations.StoppingAndRestUpdates : Prop :=
  ∀ (s : State) (i : LaneId) (l : Lane) (n : Nat), s.held = false → s.lane i = some l → l.timer = some n →
    ∃ t, exec (.laneUpdate i) s = .next t
      ∧ (∀ k, l.mode = .stopping k → l.output.natAbs ≤ l.cfg.stopStep →
          UpdateDone s t i { l with mode := .standby, output := 0, timer := some (2 ^ l.cfg.periodCode.val) } [.stopped])
      ∧ (∀ k, l.mode = .stopping k → 1 ≤ l.cfg.stopStep → l.cfg.stopStep < l.output.natAbs →
          UpdateDone s t i
            { l with output := if 0 < l.output then l.output - l.cfg.stopStep else l.output + l.cfg.stopStep
                     timer := some (2 ^ l.cfg.periodCode.val) } [])
      ∧ (l.mode = .standby ∨ (∃ k m b x, l.mode = .tripped k m b x) →
          UpdateDone s t i { l with timer := some (2 ^ l.cfg.periodCode.val) } [])

/-- A report that a port's set takes (R184): with no entry of its lane and kind present, a new entry with its detail; with one present,
the tag replaced and "more" yes, or cause and code replaced, or nothing. The count goes up by one or stays, no other entry changes, and
a refresh leaves the attention output, which is asserted exactly while the set holds an entry (R185), as it was. A masked kind is not taken.
LAPSED and OVERRUN make a new entry or leave the one present. The reports of a lane go by its claim (R183 in part: CLAIM_DROPPED goes
otherwise). -/
def Obligations.ReportMakesOrRefreshesEntry : Prop :=
  (∀ (a : LaneAttn),
    (∀ tag, a.take (.segmentDone tag) = { a with segmentDone := some (tag, decide (a.segmentDone ≠ none)) })
      ∧ (∀ k n, a.take (.tripped k n) = { a with tripped := some (k, n) })
      ∧ a.take .profileEmpty = { a with profileEmpty := true } ∧ a.take .locked = { a with locked := true }
      ∧ a.take .stopped = { a with stopped := true } ∧ a.take .resumed = { a with resumed := true }
      ∧ a.take .linkLost = { a with linkLost := true } ∧ a.take .claimDropped = { a with claimDropped := true })
  ∧ ((∀ tag, (LaneReport.segmentDone tag).kind = 0) ∧ LaneReport.profileEmpty.kind = 1 ∧ LaneReport.locked.kind = 2
      ∧ LaneReport.stopped.kind = 3 ∧ (∀ k n, (LaneReport.tripped k n).kind = 4) ∧ LaneReport.resumed.kind = 5
      ∧ LaneReport.linkLost.kind = 6 ∧ LaneReport.claimDropped.kind = 7)
  ∧ (∀ p : Port, p.attnAsserted = true ↔ p.attn.lapsed = true ∨ p.attn.overrun = true
    ∨ ∃ (i : LaneId) (r : LaneReport), holdsKind p.attn.lanes[i] r = true)
  ∧ (∀ (p : Port) (i : LaneId) (r : LaneReport),
    (p.mask.getLsbD r.kind = false → p.takeLane i r = p)
    ∧ (p.mask.getLsbD r.kind = true →
      PortButSet p (p.takeLane i r) (p.takeLane i r).attn
      ∧ (p.takeLane i r).attn.lanes[i] = p.attn.lanes[i].take r
      ∧ (∀ j : LaneId, j ≠ i → (p.takeLane i r).attn.lanes[j] = p.attn.lanes[j])
      ∧ (p.takeLane i r).attn.lapsed = p.attn.lapsed ∧ (p.takeLane i r).attn.overrun = p.attn.overrun
      ∧ (setEntries (p.takeLane i r).attn).length
          = (setEntries p.attn).length + (if holdsKind p.attn.lanes[i] r then 0 else 1)
      ∧ (p.takeLane i r).attnAsserted = true
      ∧ (holdsKind p.attn.lanes[i] r = true → (p.takeLane i r).attnAsserted = p.attnAsserted)))
  ∧ (∀ p : Port,
    (p.mask.getLsbD 8 = false → p.takeLapsed = p) ∧ (p.mask.getLsbD 9 = false → p.takeOverrun = p)
      ∧ (p.mask.getLsbD 8 = true → PortButSet p p.takeLapsed { p.attn with lapsed := true }
        ∧ (setEntries p.takeLapsed.attn).length = (setEntries p.attn).length + (if p.attn.lapsed then 0 else 1)
        ∧ p.takeLapsed.attnAsserted = true ∧ (p.attn.lapsed = true → p.takeLapsed.attnAsserted = p.attnAsserted))
      ∧ (p.mask.getLsbD 9 = true → PortButSet p p.takeOverrun { p.attn with overrun := true }
        ∧ (setEntries p.takeOverrun.attn).length = (setEntries p.attn).length + (if p.attn.overrun then 0 else 1)
        ∧ p.takeOverrun.attnAsserted = true ∧ (p.attn.overrun = true → p.takeOverrun.attnAsserted = p.attnAsserted)))
  ∧ (∀ (s : State) (i : LaneId) (r : LaneReport) (p : PortId), r ≠ .claimDropped →
    (s.report i r).port p = (if routed s i p then (s.port p).takeLane i r else s.port p))
  ∧ ∀ (a : AttnSet) (i : LaneId) (f : LaneAttn → LaneAttn), (a.onLane i f).lapsed = a.lapsed ∧ (a.onLane i f).overrun = a.overrun
    ∧ ∀ j : LaneId, (a.onLane i f).lanes[j] = if j = i then f a.lanes[i] else a.lanes[j]

/-- A lease expiry (R129 to R132): the port is LAPSED with its timer stopped, LAPSED is reported to its own set, and each lane it owns
takes its fallback, which makes an attention entry for RELEASE alone; no other lane, no slot, no duplicate store, no other part of the port
and no entry of the list is reached. -/
def Obligations.LeaseExpiryAppliesFallbacks : Prop :=
  ∀ (s : State) (p : PortId) (n : Nat), s.held = false → (s.port p).lease.timer = some n →
    ∃ t, exec (.leaseExpiry p) s = .next t
      ∧ (t.port p).lease = { period := (s.port p).lease.period, lapsed := true, timer := none }
      ∧ (t.port p).attn.lapsed = ((s.port p).mask.getLsbD 8 || (s.port p).attn.lapsed)
      ∧ (t.port p).attn.overrun = (s.port p).attn.overrun ∧ (t.port p).mask = (s.port p).mask
      ∧ (t.port p).slots = (s.port p).slots ∧ (t.port p).order = (s.port p).order ∧ (t.port p).dup = (s.port p).dup
      ∧ (t.port p).discard = (s.port p).discard
      ∧ (t.port p).strikes = (s.port p).strikes ∧ (t.port p).barred = (s.port p).barred
      ∧ t.port (otherPort p) = s.port (otherPort p) ∧ t.lastServed = s.lastServed ∧ SameLink s t ∧ SameLines s t
      ∧ (PoolLaw s → PoolLaw t)
      ∧ ∀ i,
        ((∀ l cl, s.lane i = some l → l.claim = some cl → cl.port ≠ p) →
          t.lane i = s.lane i ∧ (t.port p).attn.lanes[i] = (s.port p).attn.lanes[i])
        ∧ ∀ l key, s.lane i = some l → l.claim = some { port := p, key := key } →
          (l.cfg.fallback = .hold ∨ l.cfg.fallback = .stop → (t.port p).attn.lanes[i] = (s.port p).attn.lanes[i])
          ∧ (l.cfg.fallback = .hold →
            (∀ v x, l.mode = .active none (.running v x) →
              t.lane i = some { l with mode := .active (some l.output) (.paused v x) })
            ∧ (∀ r, l.mode = .active none r → (∀ v x, r ≠ .running v x) →
              t.lane i = some { l with mode := .active (some l.output) r })
            ∧ ((∀ r, l.mode ≠ .active none r) → t.lane i = some l))
          ∧ (l.cfg.fallback = .stop →
            (∀ h r, l.mode = .active h r →
              t.lane i = some { l with mode := .stopping .lapse, track := .blending, queue := [] })
            ∧ ((∀ h r, l.mode ≠ .active h r) → t.lane i = some l))
          ∧ (l.cfg.fallback = .release →
            t.lane i = some { l with claim := none }
            ∧ (t.port p).attn.lanes[i] =
              (if (s.port p).mask.getLsbD 7 then { (s.port p).attn.lanes[i] with claimDropped := true }
                else (s.port p).attn.lanes[i]))

/-! ## The drive link -/

/-- The oldest entry starts a transaction (R163, R168): it leaves the list, the record is filled, and the frame is composed from the lane as it
stands, a REF frame with enable on and the output in ACTIVE and STOPPING, with enable off and 0 in STANDBY and TRIPPED. The stop bit of its last character opens the reply window, and a start bit there is the reply's beginning (R162, R170). The guard
pause ends in IDLE, or with entries in the list in the next transaction (log 8). No lane and no port is reached. DLDE is asserted exactly while
a frame is sent, and DLTX then shows its characters bit after bit, a start bit, eight bits from the least significant, and a stop bit; at
every other time DLTX is high (R162). That a start bit is low and a stop bit high is the model's, log 19. -/
def Obligations.TransactionsStart : Prop :=
  (∀ (s : State) (e : Entry) (rest : List Entry) (l : Lane), s.held = false → s.frames = e :: rest → s.lane e.lane = some l →
    (s.link = .idle → ∃ t chars, exec .transactionStart s = .next t
      ∧ t.frames = rest
      ∧ t.link = .sending { lane := e.lane, kind := e.kind, address := l.cfg.address, stale := false } chars
      ∧ (e.kind = .ref → (∃ h r, l.mode = .active h r) ∨ (∃ k, l.mode = .stopping k) →
          chars = linkChars l.cfg.address 0x61 (s16Bytes l.output))
      ∧ (e.kind = .ref → (∀ h r, l.mode ≠ .active h r) → (∀ k, l.mode ≠ .stopping k) →
          chars = linkChars l.cfg.address 0x60 [0#8, 0#8])
      ∧ (∀ n, e.kind = .ident n → chars = linkChars l.cfg.address 0x62 [])
      ∧ (e.kind = .clear → chars = linkChars l.cfg.address 0x63 [])
      ∧ SameTable s t ∧ SamePorts s t ∧ SameLines s t)
    ∧ (s.link = .guarding → ∃ t u, exec .guardEnd s = .next t ∧ exec .transactionStart { s with link := .idle } = .next u ∧ t = u
      ∧ t.frames = rest ∧ SameTable s t ∧ SamePorts s t ∧ SameLines s t))
  ∧ (∀ (s : State) (x : Txn), s.held = false →
    (∀ chars, s.link = .sending x chars → exec .linkFrameSent s = .next { s with link := .awaiting x false })
      ∧ (∀ b, s.link = .awaiting x b → exec .replyBegun s = .next { s with link := .awaiting x true })
      ∧ (s.link = .guarding → s.frames = [] → exec .guardEnd s = .next { s with link := .idle }))
  ∧ ∀ s : State,
    (∀ x chars, s.link = .sending x chars → s.dlde = true
        ∧ (∀ n c, chars[n]? = some c → s.dltx (10 * n) = false ∧ (∀ j < 8, s.dltx (10 * n + 1 + j) = c.getLsbD j)
          ∧ s.dltx (10 * n + 9) = true))
      ∧ ((∀ x chars, s.link ≠ .sending x chars) → s.dlde = false ∧ ∀ n, s.dltx n = true)

/-- The end of a stale transaction, whatever its kind and its reply, reaches nothing but the link (R178). -/
def Obligations.StaleTransactionReachesNothing : Prop :=
  ∀ (s : State) (x : Txn) (b : Bool) (e : Instr), s.held = false → s.link = .awaiting x b → x.stale = true →
    EndsWithout e x b ∨ (∃ chars, e = .driveReply chars) →
    ∃ t, exec e s = .next t ∧ LinkGuards s t ∧ SameTable s t ∧ SamePorts s t ∧ t.frames = s.frames

/-- A valid reply to a REF frame that neither trips nor resolves a lane changes the drive view and the miss count alone (R172, R102, R105). A
READY or RUN reply resolves an unresolved DRIVE or LINK lane: without auto resume it stays TRIPPED; with it, it leaves for ACTIVE and
RESUMED is reported, or under HALT for STANDBY (R105 to R107). A lane that holds a pending CLEAR keeps it while it stays TRIPPED; when it
leaves, CLEAR_TRIP is answered OK and the CLEAR entry leaves the list (R112). -/
def Obligations.ReadyReplyUpdatesAndResolves : Prop :=
  (∀ (s : State) (x : Txn) (b : Bool) (chars : List Byte) (r : Reply) (l : Lane), s.held = false → s.link = .awaiting x b →
    x.stale = false → x.kind = .ref → validReply x chars = some r → s.lane x.lane = some l →
    l.mode = .standby
      ∨ (r.view.state ≠ .trip ∧ l.mode.isMoving = true)
      ∨ (∃ k n m, r.view.state ≠ .trip ∧ (l.mode = .tripped k n true m ∨ l.mode = .tripped .cascade n false m))
      ∨ (∃ n m, r.view.state = .trip ∧ l.mode = .tripped .drive n false m) →
    ∃ t, exec (.driveReply chars) s = .next t ∧ LinkGuards s t
      ∧ WritesLane s t x.lane (some { l with view := some r.view, misses := 0 }) ∧ SamePorts s t ∧ t.frames = s.frames)
  ∧ (∀ (s : State) (x : Txn) (b : Bool) (chars : List Byte) (r : Reply) (l : Lane) (k : TripCause) (n : Nat), LaneLaw s →
    s.held = false → s.link = .awaiting x b → x.stale = false → x.kind = .ref → validReply x chars = some r →
    r.view.state ≠ .trip → s.lane x.lane = some l → l.mode = .tripped k n false none → k ≠ .cascade →
    ∃ t, exec (.driveReply chars) s = .next t ∧ LinkGuards s t ∧ t.frames = s.frames
      ∧ (l.cfg.autoResume = false →
          WritesLane s t x.lane (some { l with view := some r.view, misses := 0, mode := .tripped k n true none })
          ∧ SamePorts s t)
      ∧ (l.cfg.autoResume = true → s.haltLevel = true →
          t.lane x.lane = some { l with view := some r.view, misses := 0, mode := .standby, output := 0, track := .blending }
          ∧ SamePorts s t)
      ∧ (l.cfg.autoResume = true → s.haltLevel = false →
          t.lane x.lane
            = some { l with view := some r.view, misses := 0, mode := .active none .idle, output := 0, track := .blending }
          ∧ ∀ p, (t.port p).attn.lanes[x.lane] = entriesAfter s x.lane [.resumed] p))
  ∧ (∀ (s : State) (x : Txn) (b : Bool) (chars : List Byte) (r : Reply) (l : Lane) (k : TripCause) (n : Nat) (m : Marker),
    LaneLaw s → s.held = false → s.link = .awaiting x b → x.stale = false → x.kind = .ref → validReply x chars = some r →
    r.view.state ≠ .trip → s.lane x.lane = some l → l.mode = .tripped k n false (some m) → k ≠ .cascade →
    ∃ t, exec (.driveReply chars) s = .next t ∧ LinkGuards s t
      ∧ (l.cfg.autoResume = false →
          WritesLane s t x.lane (some { l with view := some r.view, misses := 0, mode := .tripped k n true (some m) })
          ∧ SamePorts s t ∧ t.frames = s.frames)
      ∧ (l.cfg.autoResume = true → AnswersLong s t x.lane m .ok []
          ∧ t.frames = s.frames.filter fun e => e != Entry.mk x.lane .clear)
      ∧ (l.cfg.autoResume = true → s.haltLevel = true →
          t.lane x.lane = some { l with view := some r.view, misses := 0, mode := .standby, output := 0, track := .blending }
          ∧ ∀ p, (t.port p).attn = (s.port p).attn)
      ∧ (l.cfg.autoResume = true → s.haltLevel = false →
          t.lane x.lane
            = some { l with view := some r.view, misses := 0, mode := .active none .idle, output := 0, track := .blending }
          ∧ ∀ p, (t.port p).attn.lanes[x.lane] = entriesAfter s x.lane [.resumed] p))

/-- A valid TRIP reply (R102, R103, R89): an ACTIVE or STOPPING lane enters TRIPPED with cause DRIVE, with output 0, its profile flushed, a REF
entry and a TRIPPED report with the reply's code; within TRIPPED the cause becomes DRIVE, unresolved, with a report, a pending CLEAR kept
and no cascade. -/
def Obligations.TripReplyActsByLaneState : Prop :=
  (∀ (s : State) (x : Txn) (b : Bool) (chars : List Byte) (r : Reply) (l : Lane), s.held = false → s.link = .awaiting x b →
    x.stale = false → x.kind = .ref → validReply x chars = some r → r.view.state = .trip → s.lane x.lane = some l →
    l.mode.isMoving = true →
    ∃ t, exec (.driveReply chars) s = .next t ∧ LinkGuards s t
      ∧ t.lane x.lane = some (trippedRecord .drive r.view.tripCode { l with view := some r.view, misses := 0 })
      ∧ Entry.mk x.lane .ref ∈ t.frames
      ∧ ∀ p, (t.port p).attn.lanes[x.lane] = entriesAfter s x.lane [.tripped .drive r.view.tripCode] p
          ∧ (t.port p).slots = (s.port p).slots ∧ (t.port p).lease = (s.port p).lease)
  ∧ (∀ (s : State) (x : Txn) (b : Bool) (chars : List Byte) (r : Reply) (l : Lane) (k : TripCause) (n : Nat) (res : Bool)
    (m : Option Marker), s.held = false → s.link = .awaiting x b → x.stale = false → x.kind = .ref →
    validReply x chars = some r → r.view.state = .trip → s.lane x.lane = some l → l.mode = .tripped k n res m →
    (k = .drive → res = true) →
    ∃ t, exec (.driveReply chars) s = .next t ∧ LinkGuards s t
      ∧ WritesLane s t x.lane
          (some { l with view := some r.view, misses := 0, mode := .tripped .drive r.view.tripCode false m })
      ∧ t.frames = s.frames
      ∧ ∀ p, PortButSet (s.port p) (t.port p) (setAfter s x.lane [.tripped .drive r.view.tripCode] p))
  ∧ ∀ m : Mode, m.isMoving = true ↔ (∃ h r, m = .active h r) ∨ ∃ k, m = .stopping k

/-- The cascade of a trip (R85, R86, R87), over the follow tree, for a lane that its drive trips and for one that has lost its link (R102, R104):
a coupled ACTIVE or STOPPING lane below the lane that trips is tripped with cause CASCADE exactly when its parent trips; a resolved, coupled
CASCADE lane is made unresolved when its parent trips; every other lane stands. -/
def Obligations.TripCascadesDownCoupledLinks : Prop :=
  (∀ (s : State) (x : Txn) (b : Bool) (chars : List Byte) (r : Reply) (l : Lane), TreeLaw s → s.held = false →
    s.link = .awaiting x b → x.stale = false → x.kind = .ref → validReply x chars = some r → r.view.state = .trip →
    s.lane x.lane = some l → l.mode.isMoving = true →
    ∃ t, exec (.driveReply chars) s = .next t ∧ TripCascades s t x.lane)
  ∧ ∀ (s : State) (x : Txn) (b : Bool) (e : Instr) (l : Lane), TreeLaw s → s.held = false → s.link = .awaiting x b →
    x.stale = false → x.kind = .ref → EndsWithout e x b → s.lane x.lane = some l → l.misses = 2 → l.mode.isMoving = true →
    ∃ t, exec e s = .next t ∧ TripCascades s t x.lane

/-- The end of an IDENT transaction (R12, R13, R175, R176): a valid reply makes the lane STANDBY with its timer started and answers
DEFINE_LANE with the drive type; a failed try 1 or 2 queues the next; the third makes the lane VACANT and answers NO_DRIVE. -/
def Obligations.IdentOutcomes : Prop :=
  ∀ (s : State) (x : Txn) (b : Bool) (n : Nat) (l : Lane) (m : Marker), s.held = false → s.link = .awaiting x b →
    x.stale = false → x.kind = .ident n → s.lane x.lane = some l → l.mode = .defining m →
    (∀ chars r, validReply x chars = some r → ∃ t, exec (.driveReply chars) s = .next t ∧ LinkGuards s t
      ∧ WritesLane s t x.lane (some { l with
          mode := .standby, driveType := some r.driveType, view := some r.view, timer := some (2 ^ l.cfg.periodCode.val) })
      ∧ AnswersLong s t x.lane m .ok [r.driveType] ∧ t.frames = s.frames
      ∧ t.port (otherPort m.port) = s.port (otherPort m.port))
    ∧ ∀ e, EndsWithout e x b →
      (n < 3 → ∃ t, exec e s = .next t ∧ LinkGuards s t ∧ SameTable s t ∧ SamePorts s t
        ∧ t.frames = s.frames ++ [{ lane := x.lane, kind := .ident (n + 1) }])
      ∧ (3 ≤ n → ∃ t, exec e s = .next t ∧ LinkGuards s t ∧ WritesLane s t x.lane none
        ∧ AnswersLong s t x.lane m .noDrive [] ∧ t.frames = s.frames.filter (fun e => e.lane != x.lane)
        ∧ ∀ p, (t.port p).attn.lanes[x.lane] = LaneAttn.empty)

/-- A REF transaction with no valid reply counts a miss (R173, R104): below the third nothing else; the third drops the view, reports
LINK_LOST, and trips an ACTIVE or STOPPING lane with cause LINK; at 3 nothing. -/
def Obligations.MissesLeadToLinkLoss : Prop :=
  ∀ (s : State) (x : Txn) (b : Bool) (e : Instr) (l : Lane), s.held = false → s.link = .awaiting x b → x.stale = false →
    x.kind = .ref → s.lane x.lane = some l → (∀ m, l.mode ≠ .defining m) → EndsWithout e x b →
    ∃ t, exec e s = .next t ∧ LinkGuards s t
      ∧ (l.misses < 2 → WritesLane s t x.lane (some { l with misses := l.misses + 1 }) ∧ SamePorts s t ∧ t.frames = s.frames)
      ∧ (3 ≤ l.misses → SameTable s t ∧ SamePorts s t ∧ t.frames = s.frames)
      ∧ (l.misses = 2 → l.mode = .standby →
          WritesLane s t x.lane (some { l with misses := 3, view := none }) ∧ t.frames = s.frames
          ∧ ∀ p, PortButSet (s.port p) (t.port p) (setAfter s x.lane [.linkLost] p))
      ∧ (l.misses = 2 → l.mode.isMoving = true →
          t.lane x.lane = some (trippedRecord .link 0 { l with misses := 3, view := none })
          ∧ Entry.mk x.lane .ref ∈ t.frames
          ∧ ∀ p, (t.port p).attn.lanes[x.lane] = entriesAfter s x.lane [.linkLost, .tripped .link 0] p)
      ∧ (∀ k n r m, l.misses = 2 → l.mode = .tripped k n r m →
          WritesLane s t x.lane (some { l with misses := 3, view := none, mode := .tripped .link 0 false m })
          ∧ t.frames = s.frames
          ∧ ∀ p, PortButSet (s.port p) (t.port p) (setAfter s x.lane [.linkLost, .tripped .link 0] p))

/-- The end of a CLEAR transaction (R111): READY or RUN takes the lane to STANDBY and answers OK, TRIP leaves it TRIPPED with cause DRIVE and
STILL_TRIPPED, no valid reply is a miss with NO_DRIVE; the pending operation ends in every case. -/
def Obligations.ClearTransactionEnds : Prop :=
  ∀ (s : State) (x : Txn) (b : Bool) (l : Lane) (k : TripCause) (n : Nat) (res : Bool) (m : Marker), LaneLaw s →
    s.held = false → s.link = .awaiting x b → x.stale = false → x.kind = .clear → s.lane x.lane = some l →
    l.mode = .tripped k n res (some m) →
    (∀ chars r, validReply x chars = some r → r.view.state ≠ .trip → ∃ t, exec (.driveReply chars) s = .next t
      ∧ LinkGuards s t ∧ t.frames = s.frames
      ∧ t.lane x.lane = some { l with view := some r.view, misses := 0, mode := .standby, output := 0, track := .blending }
      ∧ AnswersLong s t x.lane m .ok [])
    ∧ (∀ chars r, validReply x chars = some r → r.view.state = .trip → ∃ t, exec (.driveReply chars) s = .next t
      ∧ LinkGuards s t ∧ t.frames = s.frames ∧ AnswersLong s t x.lane m .stillTripped []
      ∧ (k = .drive → res = false →
          WritesLane s t x.lane (some { l with view := some r.view, misses := 0, mode := .tripped .drive n false none })
          ∧ ∀ p, (t.port p).attn = (s.port p).attn)
      ∧ (k ≠ .drive ∨ res = true →
          WritesLane s t x.lane
            (some { l with view := some r.view, misses := 0, mode := .tripped .drive r.view.tripCode false none })
          ∧ ∀ p, (t.port p).attn = setAfter s x.lane [.tripped .drive r.view.tripCode] p))
    ∧ ∀ e, EndsWithout e x b → ∃ t, exec e s = .next t ∧ LinkGuards s t ∧ t.frames = s.frames
      ∧ AnswersLong s t x.lane m .noDrive []
      ∧ (l.misses < 2 →
          WritesLane s t x.lane (some { l with misses := l.misses + 1, mode := .tripped k n res none })
          ∧ ∀ p, (t.port p).attn = (s.port p).attn)
      ∧ (l.misses = 2 →
          WritesLane s t x.lane (some { l with misses := 3, view := none, mode := .tripped .link 0 false none })
          ∧ ∀ p, (t.port p).attn = setAfter s x.lane [.linkLost, .tripped .link 0] p)
      ∧ (3 ≤ l.misses →
          WritesLane s t x.lane (some { l with mode := .tripped k n res none }) ∧ ∀ p, (t.port p).attn = (s.port p).attn)

/-! ## Frames as bytes -/

/-- A request frame written out is the bytes of section 10.2 with the port CRC after them, and is read back with every field at every value;
one with another CRC, too long a payload or too few bytes is no frame (R140, R192, R193). A response is the bytes of its layout, the result
and the two flags by their codes. The port CRC starts at 0xFFFF and takes each byte by the rule of R193, and two-byte fields stand most
significant byte first, signed ones in two's complement. -/
def Obligations.RequestFrameRoundTrip : Prop :=
  (∀ (seq code lane : Byte) (key : Half) (payload : List Byte), payload.length ≤ 32 →
    frameBytes seq code lane key payload = withCrc (requestBody seq code lane key payload)
    ∧ (∀ more, parseFrame (frameBytes seq code lane key payload ++ more)
        = some { seq := seq, code := code, lane := lane, key := key, payload := payload
                 crc := crc16 (requestBody seq code lane key payload) })
    ∧ ∀ (w : Half) (more : List Byte), w ≠ crc16 (requestBody seq code lane key payload) →
      parseFrame (requestBody seq code lane key payload ++ [w.extractLsb' 8 8, w.extractLsb' 0 8] ++ more) = none)
  ∧ (∀ bytes : List Byte, 32 < (byteAt bytes 5).toNat ∨ bytes.length < 8 + (byteAt bytes 5).toNat → parseFrame bytes = none)
  ∧ (∀ (r : Response) (n : Nat), resultTable[n]? = some r.result →
    ∃ flags : Byte, flags.getLsbD 0 = r.lapsed ∧ flags.getLsbD 1 = r.duplicate ∧ (∀ k, 2 ≤ k → flags.getLsbD k = false)
      ∧ responseBytes r = withCrc ([r.seq, r.code, byteOf n, flags, byteOf r.payload.length] ++ r.payload))
  ∧ (∀ x : Result, x ∈ resultTable)
  ∧ (crc16 [] = 0xFFFF#16 ∧ (∀ (bs : List Byte) (b : Byte), crc16 (bs ++ [b]) = portCrcStep (crc16 bs) b)
    ∧ crc16 [0x31, 0x32, 0x33, 0x34, 0x35, 0x36, 0x37, 0x38, 0x39] = 0x29B1#16)
  ∧ ∀ (bs : List Byte) (k : Nat),
    byteAt bs k = bs[k]?.getD 0#8 ∧ u16At bs k = 256 * (byteAt bs k).toNat + (byteAt bs (k + 1)).toNat
      ∧ s16At bs k = if u16At bs k < 32768 then (u16At bs k : Int) else (u16At bs k : Int) - 65536

/-- A reply written out by the tables of R194 is valid against its transaction and read back with every field (R171). A reply is valid exactly
when every condition of R171 holds: one that is short, or has another CRC, address echo or form, a drive state above 2, a trip code that
does not fit, or a feedback out of range is not valid. A frame on the link is
its address, its form, its value and the link CRC, which starts at 0xFF and takes each character by the rule of R194. -/
def Obligations.DriveReplyRoundTrip : Prop :=
  (∀ (x : Txn) (d : DriveState) (atRef : Bool) (code : Nat) (feedback : Int) (type flags : Byte) (n : Nat),
    x.address ≤ 31 → inRange feedback → code ≤ 63 → (d = .trip ↔ 1 ≤ code) → flags.getLsbD 0 = atRef →
    (x.kind = .ref ∨ x.kind = .clear → ∃ ty, validReply x
        (linkChars x.address 0x70 ([byteOf d.code, flags, byteOf code] ++ s16Bytes feedback))
        = some { view := { state := d, atRef := atRef, tripCode := code, feedback := feedback }, driveType := ty })
    ∧ (x.kind = .ident n → validReply x
        (linkChars x.address 0x71 ([byteOf d.code, flags, byteOf code] ++ s16Bytes feedback ++ [type]))
        = some { view := { state := d, atRef := atRef, tripCode := code, feedback := feedback }, driveType := type }))
  ∧ (∀ (x : Txn) (chars : List Byte),
    (¬ ReplyOk x chars → validReply x chars = none)
      ∧ (ReplyOk x chars → ∃ r, validReply x chars = some r ∧ (byteAt chars 2).toNat = r.view.state.code
        ∧ r.view.atRef = (byteAt chars 3).getLsbD 0 ∧ r.view.tripCode = (byteAt chars 4).toNat ∧ r.view.feedback = s16At chars 5
        ∧ ∀ n, x.kind = .ident n → r.driveType = byteAt chars 7))
  ∧ (DriveState.ready.code = 0 ∧ DriveState.run.code = 1 ∧ DriveState.trip.code = 2)
  ∧ (∀ (address : Nat) (form : Byte) (value : List Byte),
    linkChars address form value = byteOf address :: form :: (value ++ [crc8 (byteOf address :: form :: value)]))
  ∧ (∀ x : Int, inRange x → s16At (s16Bytes x) 0 = x ∧ (s16Bytes x).length = 2)
  ∧ crc8 [] = 0xFF#8 ∧ (∀ (bs : List Byte) (b : Byte), crc8 (bs ++ [b]) = linkCrcStep (crc8 bs) b)
  ∧ crc8 [0x31, 0x32, 0x33, 0x34, 0x35, 0x36, 0x37, 0x38, 0x39] = 0x20#8

/-! ## Invariants -/

/-- The state after reset keeps every law. -/
def Obligations.ResetKeepsEveryLaw : Prop :=
  Law State.reset

/-- Every step keeps the lane records lawful: the ranges of R3, R54, R75, R174, what each lane state holds (R2, R36, R53, R55, R93). -/
def Obligations.StepKeepsLaneLaw : Prop :=
  ∀ s t : State, LaneLaw s → step s = .next t → LaneLaw t

/-- Every step keeps the pool's free count and the queue lengths at 64 together (R52). -/
def Obligations.StepKeepsPoolLaw : Prop :=
  ∀ s t : State, PoolLaw s → step s = .next t → PoolLaw t

/-- Every step keeps each port's delivery order a list of its occupied slots, each once (section 7.4), its strike count at most 5 and BARRED
exactly at 5 (R124), its lease timer stopped while LAPSED or off (R126), its set free of masked kinds (R188), and on the lines the response
that port U sends (R147) and the one that port S sends (R144) at the head of its order, from the character or byte in progress on. -/
def Obligations.StepKeepsPortLaws : Prop :=
  ∀ s t : State, StrikeLaw s → SlotLaw s → LeaseLaw s → MaskLaw s → TransmitLaw s → step s = .next t →
    StrikeLaw t ∧ SlotLaw t ∧ LeaseLaw t ∧ MaskLaw t ∧ TransmitLaw t

/-- Every step keeps the drive addresses of the lanes in service distinct (R5). -/
def Obligations.StepKeepsAddressLaw : Prop :=
  ∀ s t : State, AddressLaw s → step s = .next t → AddressLaw t

/-- Every step keeps the follow links a forest no deeper than 4 whose parents are in service (R79). -/
def Obligations.StepKeepsTreeLaw : Prop :=
  ∀ s t : State, TreeLaw s → step s = .next t → TreeLaw t

/-- Every step keeps the pending frame list and the transaction in flight as R164 to R167 say. -/
def Obligations.StepKeepsFrameLaw : Prop :=
  ∀ s t : State, LaneLaw s → FrameLaw s → step s = .next t → FrameLaw t

/-- Every step keeps waiting requests, pending operations and discard lists together (R6, R156, R158). -/
def Obligations.StepKeepsLongLaw : Prop :=
  ∀ s t : State, Law s → step s = .next t → LongLaw t

/-! ## The resolution cascade -/

/-- The resolution cascade (R88), over the follow tree, when a lane leaves TRIPPED by a READY or RUN reply and auto resume (R106), by CLEAR_TRIP
on a resolved lane (R110), or by the end of its CLEAR transaction (R111): an unresolved CASCADE lane with auto resume leaves exactly when its
parent leaves, for ACTIVE if its parent went there and HALT is released, else for STANDBY; one without auto resume stays, resolved; every other
lane stands. -/
def Obligations.ResolutionCascadesDownChains : Prop :=
  (∀ (s : State) (x : Txn) (b : Bool) (chars : List Byte) (r : Reply) (l : Lane) (k : TripCause) (n : Nat) (m : Option Marker),
    TreeLaw s → LaneLaw s → s.held = false → s.link = .awaiting x b → x.stale = false → x.kind = .ref →
    validReply x chars = some r → r.view.state ≠ .trip → s.lane x.lane = some l → l.mode = .tripped k n false m → k ≠ .cascade →
    l.cfg.autoResume = true →
    ∃ t, exec (.driveReply chars) s = .next t ∧ ResolutionCascades s t x.lane (!s.haltLevel))
  ∧ (∀ (s : State) (c : Ctx) (i : LaneId) (l : Lane) (k : TripCause) (n : Nat) (m : Option Marker), TreeLaw s → LaneLaw s →
    Serves s c .clearTrip → c.req.payload.length = 0 → Reaches s c i l false → l.mode = .tripped k n true m →
    ∃ t, exec .clearTrip s = .next t ∧ ResolutionCascades s t i false)
  ∧ ∀ (s : State) (x : Txn) (b : Bool) (chars : List Byte) (r : Reply) (l : Lane) (k : TripCause) (n : Nat) (res : Bool)
    (m : Marker), TreeLaw s → LaneLaw s → s.held = false → s.link = .awaiting x b → x.stale = false → x.kind = .clear →
    validReply x chars = some r → r.view.state ≠ .trip → s.lane x.lane = some l → l.mode = .tripped k n res (some m) →
    ∃ t, exec (.driveReply chars) s = .next t ∧ ResolutionCascades s t x.lane false
end

