-- ==== Sys2Proof/Laws/State.lean ====
section
/-! SUPPORT. One lemma per field for each update of State: what the named update leaves, and what it writes. -/

namespace Sys2Proof.Machine

/-! ## Writing a lane record -/

@[simp] theorem State.putLane_pending (s : State) (i : LaneId) (o : Option Lane) : (s.putLane i o).pending = s.pending := rfl

@[simp] theorem State.putLane_held (s : State) (i : LaneId) (o : Option Lane) : (s.putLane i o).held = s.held := rfl

@[simp] theorem State.putLane_haltLevel (s : State) (i : LaneId) (o : Option Lane) : (s.putLane i o).haltLevel = s.haltLevel := rfl

@[simp] theorem State.putLane_haltPin (s : State) (i : LaneId) (o : Option Lane) : (s.putLane i o).haltPin = s.haltPin := rfl

@[simp] theorem State.putLane_haltRun (s : State) (i : LaneId) (o : Option Lane) : (s.putLane i o).haltRun = s.haltRun := rfl

@[simp] theorem State.putLane_haltIn (s : State) (i : LaneId) (o : Option Lane) : (s.putLane i o).haltIn = s.haltIn := rfl

@[simp] theorem State.putLane_ticks (s : State) (i : LaneId) (o : Option Lane) : (s.putLane i o).ticks = s.ticks := rfl

@[simp] theorem State.putLane_portS (s : State) (i : LaneId) (o : Option Lane) : (s.putLane i o).portS = s.portS := rfl

@[simp] theorem State.putLane_portU (s : State) (i : LaneId) (o : Option Lane) : (s.putLane i o).portU = s.portU := rfl

@[simp] theorem State.putLane_lastServed (s : State) (i : LaneId) (o : Option Lane) : (s.putLane i o).lastServed = s.lastServed := rfl

@[simp] theorem State.putLane_framer (s : State) (i : LaneId) (o : Option Lane) : (s.putLane i o).framer = s.framer := rfl

@[simp] theorem State.putLane_gapTimer (s : State) (i : LaneId) (o : Option Lane) : (s.putLane i o).gapTimer = s.gapTimer := rfl

@[simp] theorem State.putLane_urxLow (s : State) (i : LaneId) (o : Option Lane) : (s.putLane i o).urxLow = s.urxLow := rfl

@[simp] theorem State.putLane_uTx (s : State) (i : LaneId) (o : Option Lane) : (s.putLane i o).uTx = s.uTx := rfl

@[simp] theorem State.putLane_spi (s : State) (i : LaneId) (o : Option Lane) : (s.putLane i o).spi = s.spi := rfl

@[simp] theorem State.putLane_misoOut (s : State) (i : LaneId) (o : Option Lane) : (s.putLane i o).misoOut = s.misoOut := rfl

@[simp] theorem State.putLane_lineIn (s : State) (i : LaneId) (o : Option Lane) : (s.putLane i o).lineIn = s.lineIn := rfl

@[simp] theorem State.putLane_straps (s : State) (i : LaneId) (o : Option Lane) : (s.putLane i o).straps = s.straps := rfl

@[simp] theorem State.putLane_link (s : State) (i : LaneId) (o : Option Lane) : (s.putLane i o).link = s.link := rfl

@[simp] theorem State.putLane_frames (s : State) (i : LaneId) (o : Option Lane) : (s.putLane i o).frames = s.frames := rfl

@[simp] theorem State.putLane_poolFree (s : State) (i : LaneId) (o : Option Lane) :
    (s.putLane i o).poolFree = s.poolFree + queueLen (s.lane i) - queueLen o := rfl

@[simp] theorem State.lane_putLane_self (s : State) (i : LaneId) (o : Option Lane) : (s.putLane i o).lane i = o := by
  simp [State.lane, State.putLane]

theorem State.lane_putLane_of_ne (s : State) (o : Option Lane) {i j : LaneId} (h : j ≠ i) :
    (s.putLane i o).lane j = s.lane j := by
  have h' : (i : Nat) ≠ (j : Nat) := fun e => h (Fin.ext e.symm)
  simp [State.lane, State.putLane, Vector.getElem_set_ne _ _ h']

theorem State.lane_putLane (s : State) (i j : LaneId) (o : Option Lane) :
    (s.putLane i o).lane j = if j = i then o else s.lane j := by
  by_cases h : j = i
  · subst h; simp
  · simp [h, State.lane_putLane_of_ne]

/-! ## Rewriting a port -/

@[simp] theorem State.modPort_pending (s : State) (p : PortId) (f : Port → Port) : (s.modPort p f).pending = s.pending := by
  cases p <;> rfl

@[simp] theorem State.modPort_held (s : State) (p : PortId) (f : Port → Port) : (s.modPort p f).held = s.held := by
  cases p <;> rfl

@[simp] theorem State.modPort_haltLevel (s : State) (p : PortId) (f : Port → Port) : (s.modPort p f).haltLevel = s.haltLevel := by
  cases p <;> rfl

@[simp] theorem State.modPort_haltPin (s : State) (p : PortId) (f : Port → Port) : (s.modPort p f).haltPin = s.haltPin := by
  cases p <;> rfl

@[simp] theorem State.modPort_haltRun (s : State) (p : PortId) (f : Port → Port) : (s.modPort p f).haltRun = s.haltRun := by
  cases p <;> rfl

@[simp] theorem State.modPort_haltIn (s : State) (p : PortId) (f : Port → Port) : (s.modPort p f).haltIn = s.haltIn := by
  cases p <;> rfl

@[simp] theorem State.modPort_ticks (s : State) (p : PortId) (f : Port → Port) : (s.modPort p f).ticks = s.ticks := by
  cases p <;> rfl

@[simp] theorem State.modPort_lanes (s : State) (p : PortId) (f : Port → Port) : (s.modPort p f).lanes = s.lanes := by
  cases p <;> rfl

@[simp] theorem State.modPort_poolFree (s : State) (p : PortId) (f : Port → Port) : (s.modPort p f).poolFree = s.poolFree := by
  cases p <;> rfl

@[simp] theorem State.modPort_lastServed (s : State) (p : PortId) (f : Port → Port) : (s.modPort p f).lastServed = s.lastServed := by
  cases p <;> rfl

@[simp] theorem State.modPort_framer (s : State) (p : PortId) (f : Port → Port) : (s.modPort p f).framer = s.framer := by
  cases p <;> rfl

@[simp] theorem State.modPort_gapTimer (s : State) (p : PortId) (f : Port → Port) : (s.modPort p f).gapTimer = s.gapTimer := by
  cases p <;> rfl

@[simp] theorem State.modPort_urxLow (s : State) (p : PortId) (f : Port → Port) : (s.modPort p f).urxLow = s.urxLow := by
  cases p <;> rfl

@[simp] theorem State.modPort_uTx (s : State) (p : PortId) (f : Port → Port) : (s.modPort p f).uTx = s.uTx := by
  cases p <;> rfl

@[simp] theorem State.modPort_spi (s : State) (p : PortId) (f : Port → Port) : (s.modPort p f).spi = s.spi := by
  cases p <;> rfl

@[simp] theorem State.modPort_misoOut (s : State) (p : PortId) (f : Port → Port) : (s.modPort p f).misoOut = s.misoOut := by
  cases p <;> rfl

@[simp] theorem State.modPort_lineIn (s : State) (p : PortId) (f : Port → Port) : (s.modPort p f).lineIn = s.lineIn := by
  cases p <;> rfl

@[simp] theorem State.modPort_straps (s : State) (p : PortId) (f : Port → Port) : (s.modPort p f).straps = s.straps := by
  cases p <;> rfl

@[simp] theorem State.modPort_link (s : State) (p : PortId) (f : Port → Port) : (s.modPort p f).link = s.link := by
  cases p <;> rfl

@[simp] theorem State.modPort_frames (s : State) (p : PortId) (f : Port → Port) : (s.modPort p f).frames = s.frames := by
  cases p <;> rfl

@[simp] theorem State.port_modPort_self (s : State) (p : PortId) (f : Port → Port) :
    (s.modPort p f).port p = f (s.port p) := by cases p <;> rfl

theorem State.port_modPort_of_ne (s : State) (f : Port → Port) {p q : PortId} (h : q ≠ p) :
    (s.modPort p f).port q = s.port q := by cases p <;> cases q <;> first | rfl | exact absurd rfl h

theorem State.port_modPort (s : State) (p q : PortId) (f : Port → Port) :
    (s.modPort p f).port q = if q = p then f (s.port p) else s.port q := by cases p <;> cases q <;> rfl

@[simp] theorem State.lane_modPort (s : State) (p : PortId) (f : Port → Port) (i : LaneId) :
    (s.modPort p f).lane i = s.lane i := by cases p <;> rfl

@[simp] theorem State.port_putLane (s : State) (i : LaneId) (o : Option Lane) (p : PortId) :
    (s.putLane i o).port p = s.port p := by cases p <;> rfl

@[simp] theorem State.port_s (s : State) : s.port .s = s.portS := rfl

@[simp] theorem State.port_u (s : State) : s.port .u = s.portU := rfl

/-! ## Reporting to the attention unit -/

@[simp] theorem State.report_pending (s : State) (i : LaneId) (r : LaneReport) : (s.report i r).pending = s.pending := by
  unfold State.report; split <;> simp

@[simp] theorem State.report_held (s : State) (i : LaneId) (r : LaneReport) : (s.report i r).held = s.held := by
  unfold State.report; split <;> simp

@[simp] theorem State.report_haltLevel (s : State) (i : LaneId) (r : LaneReport) : (s.report i r).haltLevel = s.haltLevel := by
  unfold State.report; split <;> simp

@[simp] theorem State.report_haltPin (s : State) (i : LaneId) (r : LaneReport) : (s.report i r).haltPin = s.haltPin := by
  unfold State.report; split <;> simp

@[simp] theorem State.report_haltRun (s : State) (i : LaneId) (r : LaneReport) : (s.report i r).haltRun = s.haltRun := by
  unfold State.report; split <;> simp

@[simp] theorem State.report_haltIn (s : State) (i : LaneId) (r : LaneReport) : (s.report i r).haltIn = s.haltIn := by
  unfold State.report; split <;> simp

@[simp] theorem State.report_ticks (s : State) (i : LaneId) (r : LaneReport) : (s.report i r).ticks = s.ticks := by
  unfold State.report; split <;> simp

@[simp] theorem State.report_lanes (s : State) (i : LaneId) (r : LaneReport) : (s.report i r).lanes = s.lanes := by
  unfold State.report; split <;> simp

@[simp] theorem State.report_poolFree (s : State) (i : LaneId) (r : LaneReport) : (s.report i r).poolFree = s.poolFree := by
  unfold State.report; split <;> simp

@[simp] theorem State.report_lastServed (s : State) (i : LaneId) (r : LaneReport) : (s.report i r).lastServed = s.lastServed := by
  unfold State.report; split <;> simp

@[simp] theorem State.report_framer (s : State) (i : LaneId) (r : LaneReport) : (s.report i r).framer = s.framer := by
  unfold State.report; split <;> simp

@[simp] theorem State.report_gapTimer (s : State) (i : LaneId) (r : LaneReport) : (s.report i r).gapTimer = s.gapTimer := by
  unfold State.report; split <;> simp

@[simp] theorem State.report_urxLow (s : State) (i : LaneId) (r : LaneReport) : (s.report i r).urxLow = s.urxLow := by
  unfold State.report; split <;> simp

@[simp] theorem State.report_uTx (s : State) (i : LaneId) (r : LaneReport) : (s.report i r).uTx = s.uTx := by
  unfold State.report; split <;> simp

@[simp] theorem State.report_spi (s : State) (i : LaneId) (r : LaneReport) : (s.report i r).spi = s.spi := by
  unfold State.report; split <;> simp

@[simp] theorem State.report_misoOut (s : State) (i : LaneId) (r : LaneReport) : (s.report i r).misoOut = s.misoOut := by
  unfold State.report; split <;> simp

@[simp] theorem State.report_lineIn (s : State) (i : LaneId) (r : LaneReport) : (s.report i r).lineIn = s.lineIn := by
  unfold State.report; split <;> simp

@[simp] theorem State.report_straps (s : State) (i : LaneId) (r : LaneReport) : (s.report i r).straps = s.straps := by
  unfold State.report; split <;> simp

@[simp] theorem State.report_link (s : State) (i : LaneId) (r : LaneReport) : (s.report i r).link = s.link := by
  unfold State.report; split <;> simp

@[simp] theorem State.report_frames (s : State) (i : LaneId) (r : LaneReport) : (s.report i r).frames = s.frames := by
  unfold State.report; split <;> simp

@[simp] theorem State.lane_report (s : State) (i j : LaneId) (r : LaneReport) : (s.report i r).lane j = s.lane j := by
  simp [State.lane]

/-! ## The pending frame list -/

@[simp] theorem State.pushRef_pending (s : State) (i : LaneId) : (s.pushRef i).pending = s.pending := by
  unfold State.pushRef; split <;> rfl

@[simp] theorem State.pushRef_held (s : State) (i : LaneId) : (s.pushRef i).held = s.held := by
  unfold State.pushRef; split <;> rfl

@[simp] theorem State.pushRef_haltLevel (s : State) (i : LaneId) : (s.pushRef i).haltLevel = s.haltLevel := by
  unfold State.pushRef; split <;> rfl

@[simp] theorem State.pushRef_haltPin (s : State) (i : LaneId) : (s.pushRef i).haltPin = s.haltPin := by
  unfold State.pushRef; split <;> rfl

@[simp] theorem State.pushRef_haltRun (s : State) (i : LaneId) : (s.pushRef i).haltRun = s.haltRun := by
  unfold State.pushRef; split <;> rfl

@[simp] theorem State.pushRef_haltIn (s : State) (i : LaneId) : (s.pushRef i).haltIn = s.haltIn := by
  unfold State.pushRef; split <;> rfl

@[simp] theorem State.pushRef_ticks (s : State) (i : LaneId) : (s.pushRef i).ticks = s.ticks := by
  unfold State.pushRef; split <;> rfl

@[simp] theorem State.pushRef_lanes (s : State) (i : LaneId) : (s.pushRef i).lanes = s.lanes := by
  unfold State.pushRef; split <;> rfl

@[simp] theorem State.pushRef_poolFree (s : State) (i : LaneId) : (s.pushRef i).poolFree = s.poolFree := by
  unfold State.pushRef; split <;> rfl

@[simp] theorem State.pushRef_portS (s : State) (i : LaneId) : (s.pushRef i).portS = s.portS := by
  unfold State.pushRef; split <;> rfl

@[simp] theorem State.pushRef_portU (s : State) (i : LaneId) : (s.pushRef i).portU = s.portU := by
  unfold State.pushRef; split <;> rfl

@[simp] theorem State.pushRef_lastServed (s : State) (i : LaneId) : (s.pushRef i).lastServed = s.lastServed := by
  unfold State.pushRef; split <;> rfl

@[simp] theorem State.pushRef_framer (s : State) (i : LaneId) : (s.pushRef i).framer = s.framer := by
  unfold State.pushRef; split <;> rfl

@[simp] theorem State.pushRef_gapTimer (s : State) (i : LaneId) : (s.pushRef i).gapTimer = s.gapTimer := by
  unfold State.pushRef; split <;> rfl

@[simp] theorem State.pushRef_urxLow (s : State) (i : LaneId) : (s.pushRef i).urxLow = s.urxLow := by
  unfold State.pushRef; split <;> rfl

@[simp] theorem State.pushRef_uTx (s : State) (i : LaneId) : (s.pushRef i).uTx = s.uTx := by
  unfold State.pushRef; split <;> rfl

@[simp] theorem State.pushRef_spi (s : State) (i : LaneId) : (s.pushRef i).spi = s.spi := by
  unfold State.pushRef; split <;> rfl

@[simp] theorem State.pushRef_misoOut (s : State) (i : LaneId) : (s.pushRef i).misoOut = s.misoOut := by
  unfold State.pushRef; split <;> rfl

@[simp] theorem State.pushRef_lineIn (s : State) (i : LaneId) : (s.pushRef i).lineIn = s.lineIn := by
  unfold State.pushRef; split <;> rfl

@[simp] theorem State.pushRef_straps (s : State) (i : LaneId) : (s.pushRef i).straps = s.straps := by
  unfold State.pushRef; split <;> rfl

@[simp] theorem State.pushRef_link (s : State) (i : LaneId) : (s.pushRef i).link = s.link := by
  unfold State.pushRef; split <;> rfl

@[simp] theorem State.lane_pushRef (s : State) (i j : LaneId) : (s.pushRef i).lane j = s.lane j := by simp [State.lane]

@[simp] theorem State.port_pushRef (s : State) (i : LaneId) (p : PortId) : (s.pushRef i).port p = s.port p := by
  cases p <;> simp [State.port]

@[simp] theorem State.pushControl_pending (s : State) (i : LaneId) (k : FrameKind) : (s.pushControl i k).pending = s.pending := rfl

@[simp] theorem State.pushControl_held (s : State) (i : LaneId) (k : FrameKind) : (s.pushControl i k).held = s.held := rfl

@[simp] theorem State.pushControl_haltLevel (s : State) (i : LaneId) (k : FrameKind) : (s.pushControl i k).haltLevel = s.haltLevel := rfl

@[simp] theorem State.pushControl_haltPin (s : State) (i : LaneId) (k : FrameKind) : (s.pushControl i k).haltPin = s.haltPin := rfl

@[simp] theorem State.pushControl_haltRun (s : State) (i : LaneId) (k : FrameKind) : (s.pushControl i k).haltRun = s.haltRun := rfl

@[simp] theorem State.pushControl_haltIn (s : State) (i : LaneId) (k : FrameKind) : (s.pushControl i k).haltIn = s.haltIn := rfl

@[simp] theorem State.pushControl_ticks (s : State) (i : LaneId) (k : FrameKind) : (s.pushControl i k).ticks = s.ticks := rfl

@[simp] theorem State.pushControl_lanes (s : State) (i : LaneId) (k : FrameKind) : (s.pushControl i k).lanes = s.lanes := rfl

@[simp] theorem State.pushControl_poolFree (s : State) (i : LaneId) (k : FrameKind) : (s.pushControl i k).poolFree = s.poolFree := rfl

@[simp] theorem State.pushControl_portS (s : State) (i : LaneId) (k : FrameKind) : (s.pushControl i k).portS = s.portS := rfl

@[simp] theorem State.pushControl_portU (s : State) (i : LaneId) (k : FrameKind) : (s.pushControl i k).portU = s.portU := rfl

@[simp] theorem State.pushControl_lastServed (s : State) (i : LaneId) (k : FrameKind) : (s.pushControl i k).lastServed = s.lastServed := rfl

@[simp] theorem State.pushControl_framer (s : State) (i : LaneId) (k : FrameKind) : (s.pushControl i k).framer = s.framer := rfl

@[simp] theorem State.pushControl_gapTimer (s : State) (i : LaneId) (k : FrameKind) : (s.pushControl i k).gapTimer = s.gapTimer := rfl

@[simp] theorem State.pushControl_urxLow (s : State) (i : LaneId) (k : FrameKind) : (s.pushControl i k).urxLow = s.urxLow := rfl

@[simp] theorem State.pushControl_uTx (s : State) (i : LaneId) (k : FrameKind) : (s.pushControl i k).uTx = s.uTx := rfl

@[simp] theorem State.pushControl_spi (s : State) (i : LaneId) (k : FrameKind) : (s.pushControl i k).spi = s.spi := rfl

@[simp] theorem State.pushControl_misoOut (s : State) (i : LaneId) (k : FrameKind) : (s.pushControl i k).misoOut = s.misoOut := rfl

@[simp] theorem State.pushControl_lineIn (s : State) (i : LaneId) (k : FrameKind) : (s.pushControl i k).lineIn = s.lineIn := rfl

@[simp] theorem State.pushControl_straps (s : State) (i : LaneId) (k : FrameKind) : (s.pushControl i k).straps = s.straps := rfl

@[simp] theorem State.pushControl_link (s : State) (i : LaneId) (k : FrameKind) : (s.pushControl i k).link = s.link := rfl

@[simp] theorem State.pushControl_frames (s : State) (i : LaneId) (k : FrameKind) :
    (s.pushControl i k).frames = s.frames ++ [{ lane := i, kind := k }] := rfl

@[simp] theorem State.lane_pushControl (s : State) (i j : LaneId) (k : FrameKind) : (s.pushControl i k).lane j = s.lane j := rfl

@[simp] theorem State.port_pushControl (s : State) (i : LaneId) (k : FrameKind) (p : PortId) :
    (s.pushControl i k).port p = s.port p := by cases p <;> rfl

/-! ## Taking a request -/

@[simp] theorem State.takeRequest_pending (s : State) (c : Ctx) : (s.takeRequest c).pending = s.pending := by
  simp [State.takeRequest]

@[simp] theorem State.takeRequest_held (s : State) (c : Ctx) : (s.takeRequest c).held = s.held := by
  simp [State.takeRequest]

@[simp] theorem State.takeRequest_haltLevel (s : State) (c : Ctx) : (s.takeRequest c).haltLevel = s.haltLevel := by
  simp [State.takeRequest]

@[simp] theorem State.takeRequest_haltPin (s : State) (c : Ctx) : (s.takeRequest c).haltPin = s.haltPin := by
  simp [State.takeRequest]

@[simp] theorem State.takeRequest_haltRun (s : State) (c : Ctx) : (s.takeRequest c).haltRun = s.haltRun := by
  simp [State.takeRequest]

@[simp] theorem State.takeRequest_haltIn (s : State) (c : Ctx) : (s.takeRequest c).haltIn = s.haltIn := by
  simp [State.takeRequest]

@[simp] theorem State.takeRequest_ticks (s : State) (c : Ctx) : (s.takeRequest c).ticks = s.ticks := by
  simp [State.takeRequest]

@[simp] theorem State.takeRequest_lanes (s : State) (c : Ctx) : (s.takeRequest c).lanes = s.lanes := by
  simp [State.takeRequest]

@[simp] theorem State.takeRequest_poolFree (s : State) (c : Ctx) : (s.takeRequest c).poolFree = s.poolFree := by
  simp [State.takeRequest]

@[simp] theorem State.takeRequest_framer (s : State) (c : Ctx) : (s.takeRequest c).framer = s.framer := by
  simp [State.takeRequest]

@[simp] theorem State.takeRequest_gapTimer (s : State) (c : Ctx) : (s.takeRequest c).gapTimer = s.gapTimer := by
  simp [State.takeRequest]

@[simp] theorem State.takeRequest_urxLow (s : State) (c : Ctx) : (s.takeRequest c).urxLow = s.urxLow := by
  simp [State.takeRequest]

@[simp] theorem State.takeRequest_uTx (s : State) (c : Ctx) : (s.takeRequest c).uTx = s.uTx := by
  simp [State.takeRequest]

@[simp] theorem State.takeRequest_spi (s : State) (c : Ctx) : (s.takeRequest c).spi = s.spi := by
  simp [State.takeRequest]

@[simp] theorem State.takeRequest_misoOut (s : State) (c : Ctx) : (s.takeRequest c).misoOut = s.misoOut := by
  simp [State.takeRequest]

@[simp] theorem State.takeRequest_lineIn (s : State) (c : Ctx) : (s.takeRequest c).lineIn = s.lineIn := by
  simp [State.takeRequest]

@[simp] theorem State.takeRequest_straps (s : State) (c : Ctx) : (s.takeRequest c).straps = s.straps := by
  simp [State.takeRequest]

@[simp] theorem State.takeRequest_link (s : State) (c : Ctx) : (s.takeRequest c).link = s.link := by
  simp [State.takeRequest]

@[simp] theorem State.takeRequest_frames (s : State) (c : Ctx) : (s.takeRequest c).frames = s.frames := by
  simp [State.takeRequest]

@[simp] theorem State.takeRequest_lastServed (s : State) (c : Ctx) : (s.takeRequest c).lastServed = c.port := rfl

@[simp] theorem State.lane_takeRequest (s : State) (c : Ctx) (i : LaneId) : (s.takeRequest c).lane i = s.lane i := by
  simp [State.lane]

theorem State.port_takeRequest (s : State) (c : Ctx) (p : PortId) :
    (s.takeRequest c).port p = (s.modPort c.port (·.setSlot c.slot (.executing c.req c.lapsed))).port p := by
  cases p <;> rfl

/-! ## A lane becomes VACANT -/

@[simp] theorem State.enterVacant_pending (s : State) (i : LaneId) : (s.enterVacant i).pending = s.pending := rfl

@[simp] theorem State.enterVacant_held (s : State) (i : LaneId) : (s.enterVacant i).held = s.held := rfl

@[simp] theorem State.enterVacant_haltLevel (s : State) (i : LaneId) : (s.enterVacant i).haltLevel = s.haltLevel := rfl

@[simp] theorem State.enterVacant_haltPin (s : State) (i : LaneId) : (s.enterVacant i).haltPin = s.haltPin := rfl

@[simp] theorem State.enterVacant_haltRun (s : State) (i : LaneId) : (s.enterVacant i).haltRun = s.haltRun := rfl

@[simp] theorem State.enterVacant_haltIn (s : State) (i : LaneId) : (s.enterVacant i).haltIn = s.haltIn := rfl

@[simp] theorem State.enterVacant_ticks (s : State) (i : LaneId) : (s.enterVacant i).ticks = s.ticks := rfl

@[simp] theorem State.enterVacant_lastServed (s : State) (i : LaneId) : (s.enterVacant i).lastServed = s.lastServed := rfl

@[simp] theorem State.enterVacant_framer (s : State) (i : LaneId) : (s.enterVacant i).framer = s.framer := rfl

@[simp] theorem State.enterVacant_gapTimer (s : State) (i : LaneId) : (s.enterVacant i).gapTimer = s.gapTimer := rfl

@[simp] theorem State.enterVacant_urxLow (s : State) (i : LaneId) : (s.enterVacant i).urxLow = s.urxLow := rfl

@[simp] theorem State.enterVacant_uTx (s : State) (i : LaneId) : (s.enterVacant i).uTx = s.uTx := rfl

@[simp] theorem State.enterVacant_spi (s : State) (i : LaneId) : (s.enterVacant i).spi = s.spi := rfl

@[simp] theorem State.enterVacant_misoOut (s : State) (i : LaneId) : (s.enterVacant i).misoOut = s.misoOut := rfl

@[simp] theorem State.enterVacant_lineIn (s : State) (i : LaneId) : (s.enterVacant i).lineIn = s.lineIn := rfl

@[simp] theorem State.enterVacant_straps (s : State) (i : LaneId) : (s.enterVacant i).straps = s.straps := rfl

@[simp] theorem State.enterVacant_poolFree (s : State) (i : LaneId) :
    (s.enterVacant i).poolFree = s.poolFree + queueLen (s.lane i) := rfl

theorem State.lane_enterVacant (s : State) (i j : LaneId) :
    (s.enterVacant i).lane j = if j = i then none else s.lane j := by
  simpa [State.enterVacant, State.lane] using s.lane_putLane i j none

theorem State.enterVacant_frames (s : State) (i : LaneId) :
    (s.enterVacant i).frames = s.frames.filter (fun e => e.lane != i) := rfl

/-! ## One field of a port -/

@[simp] theorem Port.setSlot_order (p : Port) (k : SlotId) (x : Slot) : (p.setSlot k x).order = p.order := rfl

@[simp] theorem Port.setSlot_dup (p : Port) (k : SlotId) (x : Slot) : (p.setSlot k x).dup = p.dup := rfl

@[simp] theorem Port.setSlot_discard (p : Port) (k : SlotId) (x : Slot) : (p.setSlot k x).discard = p.discard := rfl

@[simp] theorem Port.setSlot_strikes (p : Port) (k : SlotId) (x : Slot) : (p.setSlot k x).strikes = p.strikes := rfl

@[simp] theorem Port.setSlot_barred (p : Port) (k : SlotId) (x : Slot) : (p.setSlot k x).barred = p.barred := rfl

@[simp] theorem Port.setSlot_lease (p : Port) (k : SlotId) (x : Slot) : (p.setSlot k x).lease = p.lease := rfl

@[simp] theorem Port.setSlot_attn (p : Port) (k : SlotId) (x : Slot) : (p.setSlot k x).attn = p.attn := rfl

@[simp] theorem Port.setSlot_mask (p : Port) (k : SlotId) (x : Slot) : (p.setSlot k x).mask = p.mask := rfl

@[simp] theorem Port.takeLane_slots (p : Port) (i : LaneId) (r : LaneReport) : (p.takeLane i r).slots = p.slots := by
  unfold Port.takeLane; split <;> rfl

@[simp] theorem Port.takeLapsed_slots (p : Port) : p.takeLapsed.slots = p.slots := by
  unfold Port.takeLapsed; split <;> rfl

@[simp] theorem Port.takeOverrun_slots (p : Port) : p.takeOverrun.slots = p.slots := by
  unfold Port.takeOverrun; split <;> rfl

@[simp] theorem Port.dropLane_slots (p : Port) (i : LaneId) : (p.dropLane i).slots = p.slots := rfl

@[simp] theorem Port.takeLane_order (p : Port) (i : LaneId) (r : LaneReport) : (p.takeLane i r).order = p.order := by
  unfold Port.takeLane; split <;> rfl

@[simp] theorem Port.takeLapsed_order (p : Port) : p.takeLapsed.order = p.order := by
  unfold Port.takeLapsed; split <;> rfl

@[simp] theorem Port.takeOverrun_order (p : Port) : p.takeOverrun.order = p.order := by
  unfold Port.takeOverrun; split <;> rfl

@[simp] theorem Port.dropLane_order (p : Port) (i : LaneId) : (p.dropLane i).order = p.order := rfl

@[simp] theorem Port.takeLane_dup (p : Port) (i : LaneId) (r : LaneReport) : (p.takeLane i r).dup = p.dup := by
  unfold Port.takeLane; split <;> rfl

@[simp] theorem Port.takeLapsed_dup (p : Port) : p.takeLapsed.dup = p.dup := by
  unfold Port.takeLapsed; split <;> rfl

@[simp] theorem Port.takeOverrun_dup (p : Port) : p.takeOverrun.dup = p.dup := by
  unfold Port.takeOverrun; split <;> rfl

@[simp] theorem Port.dropLane_dup (p : Port) (i : LaneId) : (p.dropLane i).dup = p.dup := rfl

@[simp] theorem Port.takeLane_discard (p : Port) (i : LaneId) (r : LaneReport) : (p.takeLane i r).discard = p.discard := by
  unfold Port.takeLane; split <;> rfl

@[simp] theorem Port.takeLapsed_discard (p : Port) : p.takeLapsed.discard = p.discard := by
  unfold Port.takeLapsed; split <;> rfl

@[simp] theorem Port.takeOverrun_discard (p : Port) : p.takeOverrun.discard = p.discard := by
  unfold Port.takeOverrun; split <;> rfl

@[simp] theorem Port.dropLane_discard (p : Port) (i : LaneId) : (p.dropLane i).discard = p.discard := rfl

@[simp] theorem Port.takeLane_strikes (p : Port) (i : LaneId) (r : LaneReport) : (p.takeLane i r).strikes = p.strikes := by
  unfold Port.takeLane; split <;> rfl

@[simp] theorem Port.takeLapsed_strikes (p : Port) : p.takeLapsed.strikes = p.strikes := by
  unfold Port.takeLapsed; split <;> rfl

@[simp] theorem Port.takeOverrun_strikes (p : Port) : p.takeOverrun.strikes = p.strikes := by
  unfold Port.takeOverrun; split <;> rfl

@[simp] theorem Port.dropLane_strikes (p : Port) (i : LaneId) : (p.dropLane i).strikes = p.strikes := rfl

@[simp] theorem Port.takeLane_barred (p : Port) (i : LaneId) (r : LaneReport) : (p.takeLane i r).barred = p.barred := by
  unfold Port.takeLane; split <;> rfl

@[simp] theorem Port.takeLapsed_barred (p : Port) : p.takeLapsed.barred = p.barred := by
  unfold Port.takeLapsed; split <;> rfl

@[simp] theorem Port.takeOverrun_barred (p : Port) : p.takeOverrun.barred = p.barred := by
  unfold Port.takeOverrun; split <;> rfl

@[simp] theorem Port.dropLane_barred (p : Port) (i : LaneId) : (p.dropLane i).barred = p.barred := rfl

@[simp] theorem Port.takeLane_lease (p : Port) (i : LaneId) (r : LaneReport) : (p.takeLane i r).lease = p.lease := by
  unfold Port.takeLane; split <;> rfl

@[simp] theorem Port.takeLapsed_lease (p : Port) : p.takeLapsed.lease = p.lease := by
  unfold Port.takeLapsed; split <;> rfl

@[simp] theorem Port.takeOverrun_lease (p : Port) : p.takeOverrun.lease = p.lease := by
  unfold Port.takeOverrun; split <;> rfl

@[simp] theorem Port.dropLane_lease (p : Port) (i : LaneId) : (p.dropLane i).lease = p.lease := rfl

@[simp] theorem Port.takeLane_mask (p : Port) (i : LaneId) (r : LaneReport) : (p.takeLane i r).mask = p.mask := by
  unfold Port.takeLane; split <;> rfl

@[simp] theorem Port.takeLapsed_mask (p : Port) : p.takeLapsed.mask = p.mask := by
  unfold Port.takeLapsed; split <;> rfl

@[simp] theorem Port.takeOverrun_mask (p : Port) : p.takeOverrun.mask = p.mask := by
  unfold Port.takeOverrun; split <;> rfl

@[simp] theorem Port.dropLane_mask (p : Port) (i : LaneId) : (p.dropLane i).mask = p.mask := rfl

@[simp] theorem Port.answer_order (p : Port) (k : SlotId) (r : Result) (payload : List Byte) :
    (p.answer k r payload).order = p.order := by
  unfold Port.answer; split <;> rfl

@[simp] theorem Port.answer_discard (p : Port) (k : SlotId) (r : Result) (payload : List Byte) :
    (p.answer k r payload).discard = p.discard := by
  unfold Port.answer; split <;> rfl

@[simp] theorem Port.answer_strikes (p : Port) (k : SlotId) (r : Result) (payload : List Byte) :
    (p.answer k r payload).strikes = p.strikes := by
  unfold Port.answer; split <;> rfl

@[simp] theorem Port.answer_barred (p : Port) (k : SlotId) (r : Result) (payload : List Byte) :
    (p.answer k r payload).barred = p.barred := by
  unfold Port.answer; split <;> rfl

@[simp] theorem Port.answer_lease (p : Port) (k : SlotId) (r : Result) (payload : List Byte) :
    (p.answer k r payload).lease = p.lease := by
  unfold Port.answer; split <;> rfl

@[simp] theorem Port.answer_attn (p : Port) (k : SlotId) (r : Result) (payload : List Byte) :
    (p.answer k r payload).attn = p.attn := by
  unfold Port.answer; split <;> rfl

@[simp] theorem Port.answer_mask (p : Port) (k : SlotId) (r : Result) (payload : List Byte) :
    (p.answer k r payload).mask = p.mask := by
  unfold Port.answer; split <;> rfl

@[simp] theorem Port.strike_slots (p : Port) : p.strike.slots = p.slots := rfl

@[simp] theorem Port.strike_order (p : Port) : p.strike.order = p.order := rfl

@[simp] theorem Port.strike_dup (p : Port) : p.strike.dup = p.dup := rfl

@[simp] theorem Port.strike_discard (p : Port) : p.strike.discard = p.discard := rfl

@[simp] theorem Port.strike_lease (p : Port) : p.strike.lease = p.lease := rfl

@[simp] theorem Port.strike_attn (p : Port) : p.strike.attn = p.attn := rfl

@[simp] theorem Port.strike_mask (p : Port) : p.strike.mask = p.mask := rfl

@[simp] theorem Port.clearStrikes_slots (p : Port) : p.clearStrikes.slots = p.slots := rfl

@[simp] theorem Port.clearStrikes_order (p : Port) : p.clearStrikes.order = p.order := rfl

@[simp] theorem Port.clearStrikes_dup (p : Port) : p.clearStrikes.dup = p.dup := rfl

@[simp] theorem Port.clearStrikes_discard (p : Port) : p.clearStrikes.discard = p.discard := rfl

@[simp] theorem Port.clearStrikes_barred (p : Port) : p.clearStrikes.barred = p.barred := rfl

@[simp] theorem Port.clearStrikes_lease (p : Port) : p.clearStrikes.lease = p.lease := rfl

@[simp] theorem Port.clearStrikes_attn (p : Port) : p.clearStrikes.attn = p.attn := rfl

@[simp] theorem Port.clearStrikes_mask (p : Port) : p.clearStrikes.mask = p.mask := rfl

@[simp] theorem Port.occupy_discard (p : Port) (k : SlotId) (x : Bool → Slot) : (p.occupy k x).discard = p.discard := rfl

@[simp] theorem Port.occupy_strikes (p : Port) (k : SlotId) (x : Bool → Slot) : (p.occupy k x).strikes = p.strikes := rfl

@[simp] theorem Port.occupy_barred (p : Port) (k : SlotId) (x : Bool → Slot) : (p.occupy k x).barred = p.barred := rfl

@[simp] theorem Port.occupy_attn (p : Port) (k : SlotId) (x : Bool → Slot) : (p.occupy k x).attn = p.attn := rfl

@[simp] theorem Port.occupy_mask (p : Port) (k : SlotId) (x : Bool → Slot) : (p.occupy k x).mask = p.mask := rfl

@[simp] theorem Port.deliver_dup (p : Port) (k : SlotId) : (p.deliver k).dup = p.dup := rfl

@[simp] theorem Port.deliver_discard (p : Port) (k : SlotId) : (p.deliver k).discard = p.discard := rfl

@[simp] theorem Port.deliver_strikes (p : Port) (k : SlotId) : (p.deliver k).strikes = p.strikes := rfl

@[simp] theorem Port.deliver_barred (p : Port) (k : SlotId) : (p.deliver k).barred = p.barred := rfl

@[simp] theorem Port.deliver_lease (p : Port) (k : SlotId) : (p.deliver k).lease = p.lease := rfl

@[simp] theorem Port.deliver_attn (p : Port) (k : SlotId) : (p.deliver k).attn = p.attn := rfl

@[simp] theorem Port.deliver_mask (p : Port) (k : SlotId) : (p.deliver k).mask = p.mask := rfl

theorem Port.slots_setSlot (p : Port) (k j : SlotId) (x : Slot) :
    (p.setSlot k x).slots[j] = if j = k then x else p.slots[j] := by
  by_cases h : j = k
  · subst h; simp [Port.setSlot]
  · have h' : (k : Nat) ≠ (j : Nat) := fun e => h (Fin.ext e.symm)
    simp [Port.setSlot, h, Vector.getElem_set_ne _ _ h']

@[simp] theorem Port.slots_setSlot_self (p : Port) (k : SlotId) (x : Slot) : (p.setSlot k x).slots[(k : Nat)] = x :=
  (Port.slots_setSlot p k k x).trans (if_pos rfl)

end Sys2Proof.Machine
end

