-- ==== Sys2Proof/Laws/Engine.lean ====
section
/-! SUPPORT. What the arbiter, the key check and the request engine can do, each said once: a request that is served, refused, or
accepted with one lane's record written. -/

namespace Sys2Proof.Machine

open Sys2Proof.Safety

/-! ## The arbiter (R151) -/

theorem Port.firstQueued_spec {p : Port} {k : SlotId} {q : Request} {f : Bool} (h : p.firstQueued = some (k, q, f)) :
    p.slots[k] = .queued q f ∧ ∃ before after, p.order = before ++ k :: after
      ∧ ∀ j ∈ before, ∀ q f, p.slots[j] ≠ .queued q f := by
  unfold Port.firstQueued at h
  obtain ⟨before, j, after, ho, hj, hb⟩ := List.findSome?_eq_some_iff.1 h
  have hk : p.slots[j] = .queued q f ∧ j = k := by
    revert hj
    cases hs : p.slots[j] <;> simp
    rintro rfl rfl rfl
    exact ⟨⟨rfl, rfl⟩, rfl⟩
  obtain ⟨hs, rfl⟩ := hk
  refine ⟨hs, before, after, ho, ?_⟩
  intro x hx q' f' hq
  have := hb x hx
  rw [hq] at this
  cases this

theorem State.choice_spec {s : State} {c : Ctx} (h : s.choice = some c) :
    (s.port c.port).firstQueued = some (c.slot, c.req, c.lapsed) := by
  have key : ∀ p, s.queuedAt p = some c → (s.port c.port).firstQueued = some (c.slot, c.req, c.lapsed) := by
    intro p hp
    unfold State.queuedAt at hp
    obtain ⟨x, hx, rfl⟩ := Option.map_eq_some_iff.1 hp
    exact hx
  unfold State.choice at h
  split at h
  · rename_i d hd
    cases h
    exact key _ hd
  · exact key _ h

/-- The chosen slot is QUEUED with the chosen request. -/
theorem State.choice_slot {s : State} {c : Ctx} (h : s.choice = some c) :
    (s.port c.port).slots[c.slot] = .queued c.req c.lapsed := (Port.firstQueued_spec (State.choice_spec h)).1

/-! ## The engine's event (R152) -/

theorem runEngine_of_held {s : State} (h : s.held = true) (row : Instr) (act : Request.Action) :
    runEngine row act s = .next s := by simp [runEngine, whenRunning, h]

theorem runEngine_of_serves {s : State} {c : Ctx} {row : Instr} (h : Serves s c row) (act : Request.Action) :
    runEngine row act s = .next ((act c (s.takeRequest c)).2.finish c (act c (s.takeRequest c)).1) := by
  simp [runEngine, whenRunning, State.engine, h.running, h.chosen, h.code]

theorem runEngine_of_not_chosen {s : State} {row : Instr} (h : ∀ c, s.choice = some c → rowOfCode c.req.code ≠ row)
    (act : Request.Action) : runEngine row act s = .next s := by
  have e : s.engine row act = s := by
    unfold State.engine
    split
    · rfl
    · next c hc => exact if_neg (h c hc)
  simp [runEngine, whenRunning, e]

/-! ## Answering (R141, R150, R152) -/

@[simp] theorem State.takeRequest_port_self (s : State) (c : Ctx) :
    (s.takeRequest c).port c.port = (s.port c.port).setSlot c.slot (.executing c.req c.lapsed) := by
  rw [State.port_takeRequest, State.port_modPort_self]

@[simp] theorem State.takeRequest_port_other (s : State) (c : Ctx) :
    (s.takeRequest c).port (otherPort c.port) = s.port (otherPort c.port) := by
  rw [State.port_takeRequest, State.port_modPort_of_ne]
  cases c.port <;> simp [otherPort]

theorem otherPort_ne (p : PortId) : otherPort p ≠ p := by cases p <;> simp [otherPort]

theorem Port.answer_executing (p : Port) (k : SlotId) (q : Request) (f : Bool) (r : Result) (payload : List Byte)
    (h : p.slots[k] = .executing q f) :
    p.answer k r payload =
      { p.setSlot k (.answered
          { seq := q.seq, code := q.code, result := r, lapsed := f, duplicate := false, payload := payload }) with
        dup := p.dup.map (DupStore.fill k { result := r, payload := payload }) } := by
  unfold Port.answer
  rw [h]

/-- Answering a port whose slot c.slot executes the request of c. -/
theorem answered_of {u : State} {c : Ctx} {p : Port} (r : Result) (payload : List Byte)
    (hp : u.port c.port = p.setSlot c.slot (.executing c.req c.lapsed)) (hs : u.lastServed = c.port) :
    Answered (u.modPort c.port (·.answer c.slot r payload)) c p r payload := by
  have hx : (p.setSlot c.slot (.executing c.req c.lapsed)).slots[c.slot] = .executing c.req c.lapsed :=
    Port.slots_setSlot_self p c.slot _
  have key : (u.modPort c.port (·.answer c.slot r payload)).port c.port
      = { (p.setSlot c.slot (.executing c.req c.lapsed)).setSlot c.slot (.answered
            { seq := c.req.seq, code := c.req.code, result := r, lapsed := c.lapsed, duplicate := false, payload := payload }) with
          dup := p.dup.map (DupStore.fill c.slot { result := r, payload := payload }) } := by
    rw [State.port_modPort_self, hp, Port.answer_executing _ _ _ _ _ _ hx]
    rfl
  refine ⟨?_, ?_, ?_, ?_, ?_, ?_, ?_, ?_, ?_, ?_, by simpa using hs⟩
  · rw [key]; exact Port.slots_setSlot_self _ _ _
  · intro k hk
    rw [key]
    show ((p.setSlot c.slot (.executing c.req c.lapsed)).setSlot c.slot _).slots[k] = _
    rw [Port.slots_setSlot, if_neg hk, Port.slots_setSlot, if_neg hk]
  all_goals rw [key]; first | rfl | skip

theorem waits_of {t : State} {c : Ctx} {p : Port}
    (hp : t.port c.port = p.setSlot c.slot (.executing c.req c.lapsed)) (hs : t.lastServed = c.port) : Waits t c p := by
  refine ⟨?_, ?_, ?_, ?_, ?_, ?_, ?_, ?_, ?_, ?_, hs⟩
  · rw [hp]; exact Port.slots_setSlot_self _ _ _
  · intro k hk
    rw [hp, Port.slots_setSlot, if_neg hk]
  all_goals rw [hp]; rfl

/-! ## The key check (R123, R124) -/

/-- The state in which a request that has passed steps 5 and 6 for a lane goes on: taken, its port's strikes cleared on an owned lane. -/
def keyState (s : State) (c : Ctx) (l : Lane) : State :=
  if l.claim.isSome then (s.takeRequest c).modPort c.port Port.clearStrikes else s.takeRequest c

theorem keyState_lane (s : State) (c : Ctx) (l : Lane) (j : LaneId) : (keyState s c l).lane j = s.lane j := by
  unfold keyState; split <;> simp

theorem keyState_pool (s : State) (c : Ctx) (l : Lane) : (keyState s c l).poolFree = s.poolFree := by
  unfold keyState; split <;> simp

theorem keyState_link (s : State) (c : Ctx) (l : Lane) : SameLink s (keyState s c l) := by
  unfold keyState; split <;> exact ⟨by simp, by simp⟩

theorem keyState_lines (s : State) (c : Ctx) (l : Lane) : SameLines s (keyState s c l) := by
  unfold keyState; split <;> constructor <;> simp

theorem keyState_served (s : State) (c : Ctx) (l : Lane) : (keyState s c l).lastServed = c.port := by
  unfold keyState; split <;> simp

theorem keyState_port (s : State) (c : Ctx) (l : Lane) :
    (keyState s c l).port c.port = (afterKey l (s.port c.port)).setSlot c.slot (.executing c.req c.lapsed) := by
  unfold keyState afterKey; split
  · rw [State.port_modPort_self, State.takeRequest_port_self]; rfl
  · rw [State.takeRequest_port_self]

theorem keyState_other (s : State) (c : Ctx) (l : Lane) :
    (keyState s c l).port (otherPort c.port) = s.port (otherPort c.port) := by
  unfold keyState; split
  · rw [State.port_modPort_of_ne _ _ (otherPort_ne _)]; simp
  · simp

theorem takeRequest_barred (s : State) (c : Ctx) : ((s.takeRequest c).port c.port).barred = (s.port c.port).barred := by
  simp

theorem keyCheck_of_passes {s : State} {c : Ctx} {claiming : Bool} {l : Lane} (h : keyPasses s c claiming l) :
    keyCheck c claiming l (s.takeRequest c) = (none, keyState s c l) := by
  unfold keyPasses at h
  unfold keyCheck keyState
  cases hc : l.claim with
  | none =>
    rw [hc] at h
    cases claiming
    · simp
    · simp [h rfl]
  | some cl =>
    rw [hc] at h
    obtain ⟨hb, rfl⟩ := h
    simp [hb]

/-- A changing request that passes steps 2 to 7 goes on to its own steps with the lane's record. -/
theorem changing_of_reaches {s : State} {c : Ctx} {i : LaneId} {l : Lane} {claiming : Bool} (h : Reaches s c i l claiming)
    (rest : LaneId → Lane → State → Answer × State) :
    changing c true claiming (s.takeRequest c) rest = rest i l (keyState s c l) := by
  unfold changing
  simp [h.lane, h.record, keyed, keyCheck_of_passes h.key, h.free]

/-! ## Refused and accepted requests (R155) -/

/-- A request that has passed the key check and is answered with no other effect. -/
theorem onlyAnswered_key (s : State) (c : Ctx) (l : Lane) (r : Result) (payload : List Byte) :
    OnlyAnswered s ((keyState s c l).modPort c.port (·.answer c.slot r payload)) c (afterKey l (s.port c.port)) r payload := by
  refine ⟨answered_of r payload (keyState_port s c l) (keyState_served s c l), ?_, ⟨fun j => ?_, ?_⟩, ⟨?_, ?_⟩, ?_⟩
  · rw [State.port_modPort_of_ne _ _ (otherPort_ne _), keyState_other]
  · simp [keyState_lane]
  · simp [keyState_pool]
  · simp [(keyState_link s c l).link]
  · simp [(keyState_link s c l).frames]
  · have h := keyState_lines s c l
    constructor <;> simp [h.pending, h.held, h.haltLevel, h.haltPin, h.haltRun, h.haltIn, h.ticks, h.framer, h.gapTimer, h.urxLow,
      h.uTx, h.spi, h.misoOut, h.lineIn, h.straps]

/-- A request that is answered before the key check, or with none. -/
theorem onlyAnswered_take (s : State) (c : Ctx) (f : Port → Port) (p : Port) (r : Result) (payload : List Byte)
    (hf : f ((s.port c.port).setSlot c.slot (.executing c.req c.lapsed)) = p.setSlot c.slot (.executing c.req c.lapsed)) :
    OnlyAnswered s (((s.takeRequest c).modPort c.port f).modPort c.port (·.answer c.slot r payload)) c p r payload := by
  refine ⟨answered_of r payload (by rw [State.port_modPort_self, State.takeRequest_port_self, hf]) (by simp), ?_,
    ⟨fun j => ?_, ?_⟩, ⟨?_, ?_⟩, ?_⟩
  · rw [State.port_modPort_of_ne _ _ (otherPort_ne _), State.port_modPort_of_ne _ _ (otherPort_ne _)]; simp
  · simp
  · simp
  · simp
  · simp
  · constructor <;> simp

theorem State.modPort_id (s : State) (p : PortId) : s.modPort p id = s := by cases p <;> rfl

/-- A request that is answered with no other effect, before the key check or with none. -/
theorem onlyAnswered_plain (s : State) (c : Ctx) (r : Result) (payload : List Byte) :
    OnlyAnswered s ((s.takeRequest c).modPort c.port (·.answer c.slot r payload)) c (s.port c.port) r payload := by
  have h := onlyAnswered_take s c id (s.port c.port) r payload rfl
  rwa [State.modPort_id] at h

/-- An accepted request that writes one lane's record. -/
theorem laneDone_put (s : State) (c : Ctx) (i : LaneId) (l l' : Lane) :
    LaneDone s (((keyState s c l).putLane i (some l')).modPort c.port (·.answer c.slot .ok [])) c i l l' := by
  refine ⟨⟨by simp, fun j hj => ?_, ?_⟩, answered_of .ok [] ?_ ?_, ?_, ⟨?_, ?_⟩, ?_⟩
  · simp [State.lane_putLane_of_ne _ _ hj, keyState_lane]
  · simp [keyState_pool, keyState_lane]
  · rw [State.port_putLane, keyState_port]
  · simp [keyState_served]
  · rw [State.port_modPort_of_ne _ _ (otherPort_ne _), State.port_putLane, keyState_other]
  · simp [(keyState_link s c l).link]
  · simp [(keyState_link s c l).frames]
  · have h := keyState_lines s c l
    constructor <;> simp [h.pending, h.held, h.haltLevel, h.haltPin, h.haltRun, h.haltIn, h.ticks, h.framer, h.gapTimer, h.urxLow,
      h.uTx, h.spi, h.misoOut, h.lineIn, h.straps]

/-- An accepted request that finds its lane as it is to be. -/
theorem laneDone_same (s : State) (c : Ctx) (i : LaneId) (l : Lane) (hl : s.lane i = some l) :
    LaneDone s ((keyState s c l).modPort c.port (·.answer c.slot .ok [])) c i l l := by
  have h := onlyAnswered_key s c l .ok []
  refine ⟨⟨by rw [h.table.lanes, hl], fun j _ => h.table.lanes j, ?_⟩, h.answered, h.other, h.link, h.lines⟩
  rw [h.table.pool, hl]
  simp [queueLen]

/-! ## From what a request's checks and action come to, to its event

Each takes the pair that the request's action answers on the taken state; the event itself is runEngine_of_serves. -/

theorem laneDone_of_ok {s : State} {c : Ctx} {i : LaneId} {l l' : Lane} {act : Request.Action}
    (e : act c (s.takeRequest c) = (.ok [], (keyState s c l).putLane i (some l'))) :
    LaneDone s ((act c (s.takeRequest c)).2.finish c (act c (s.takeRequest c)).1) c i l l' := by
  rw [e]; exact laneDone_put s c i l l'

theorem laneDone_of_same {s : State} {c : Ctx} {i : LaneId} {l : Lane} {act : Request.Action} (hl : s.lane i = some l)
    (e : act c (s.takeRequest c) = (.ok [], keyState s c l)) :
    LaneDone s ((act c (s.takeRequest c)).2.finish c (act c (s.takeRequest c)).1) c i l l := by
  rw [e]; exact laneDone_same s c i l hl

/-- Refused after the right key. -/
theorem onlyAnswered_of_refuse {s : State} {c : Ctx} {l : Lane} {r : Result} {act : Request.Action}
    (e : act c (s.takeRequest c) = (.refuse r, keyState s c l)) :
    OnlyAnswered s ((act c (s.takeRequest c)).2.finish c (act c (s.takeRequest c)).1) c (afterKey l (s.port c.port)) r [] := by
  rw [e]; exact onlyAnswered_key s c l r []

/-- Refused before the key check, or with none. -/
theorem onlyAnswered_of_refuse_plain {s : State} {c : Ctx} {r : Result} {act : Request.Action}
    (e : act c (s.takeRequest c) = (.refuse r, s.takeRequest c)) :
    OnlyAnswered s ((act c (s.takeRequest c)).2.finish c (act c (s.takeRequest c)).1) c (s.port c.port) r [] := by
  rw [e]; exact onlyAnswered_plain s c r []

/-- Answered OK with nothing changed, with no key check. -/
theorem onlyAnswered_of_ok_plain {s : State} {c : Ctx} {payload : List Byte} {act : Request.Action}
    (e : act c (s.takeRequest c) = (.ok payload, s.takeRequest c)) :
    OnlyAnswered s ((act c (s.takeRequest c)).2.finish c (act c (s.takeRequest c)).1) c (s.port c.port) .ok payload := by
  rw [e]; exact onlyAnswered_plain s c .ok payload

/-! ## The lane field -/

theorem laneOf_eq_none_iff {b : Byte} : laneOf b = none ↔ 24 ≤ b.toNat := by unfold laneOf; simp

theorem laneOf_eq_some_iff {b : Byte} {i : LaneId} : laneOf b = some i ↔ b.toNat = i.val := by
  unfold laneOf
  have := i.isLt
  constructor
  · intro h
    split at h
    · cases h; rfl
    · cases h
  · intro h
    rw [dif_pos (by omega)]
    simp [h]

/-! ## The derived values read the records alone (R78) -/

theorem parentOf_congr {s t : State} (h : ∀ j, t.lane j = s.lane j) (j : LaneId) : t.parentOf j = s.parentOf j := by
  simp [State.parentOf, h]

theorem depth_congr {s t : State} (h : ∀ j, t.lane j = s.lane j) (j : LaneId) : t.depth j = s.depth j := by
  unfold State.depth
  generalize 24 = n
  induction n generalizing j with
  | zero => rfl
  | succ n ih => simp only [State.depthUp, parentOf_congr h, ih]

theorem under_congr {s t : State} (h : ∀ j, t.lane j = s.lane j) (i j : LaneId) : t.under i j = s.under i j := by
  unfold State.under
  generalize 24 = n
  induction n generalizing j with
  | zero => rfl
  | succ n ih => simp only [State.underUp, parentOf_congr h, ih]

theorem followers_congr {s t : State} (h : ∀ j, t.lane j = s.lane j) (i : LaneId) : t.followers i = s.followers i := by
  simp only [State.followers, parentOf_congr h]

theorem followerCount_congr {s t : State} (h : ∀ j, t.lane j = s.lane j) (i : LaneId) :
    t.followerCount i = s.followerCount i := by simp only [State.followerCount, followers_congr h]

theorem height_congr {s t : State} (h : ∀ j, t.lane j = s.lane j) (i : LaneId) : t.height i = s.height i := by
  unfold State.height
  generalize 24 = n
  induction n generalizing i with
  | zero => rfl
  | succ n ih => simp only [State.heightDown, followers_congr h, ih]

theorem addressHeld_congr {s t : State} (h : ∀ j, t.lane j = s.lane j) (i : LaneId) (a : Nat) :
    t.addressHeld i a = s.addressHeld i a := by simp only [State.addressHeld, h]

theorem mem_allLanes (i : LaneId) : i ∈ allLanes := by revert i; decide

theorem allLanes_nodup : allLanes.Nodup := by decide

end Sys2Proof.Machine
end

