-- ==== Sys2Proof/Laws/Ports.lean ====
section
/-! SUPPORT. What a pin's event can do, and a byte of port S clocked in bit by bit. -/

namespace Sys2Proof.Machine

open Sys2Proof.Safety

/-! ## A row's event at a port -/

@[simp] theorem State.atPort_u (s : State) (f : State → State) : s.atPort .u f = f s := by
  unfold State.atPort
  cases s.spi <;> rfl

theorem State.atPort_of_open {s : State} {p : PortId} (h : PortOpen s p) (f : State → State) : s.atPort p f = f s := by
  cases p with
  | u => exact State.atPort_u s f
  | s => simp only [State.atPort, h rfl]

/-! ## What a pin's event leaves unchanged -/

/-- A pin's event reaches port S, and of the lines the transaction, MISO, the transmitter and the noted level of URX; nothing else. -/
theorem State.line_same {α : Type} (read : State → α) (spi : ∀ t x, read { t with spi := x } = read t)
    (miso : ∀ t x, read { t with misoOut := x } = read t) (urx : ∀ t x, read { t with urxLow := x } = read t)
    (utx : ∀ t x, read { t with uTx := x } = read t) (port : ∀ t f, read (State.modPort t .s f) = read t) (s : State) (e : LineEvent) :
    read (s.line e) = read s := by
  have two : ∀ (s : State) m y, read { s with misoOut := m, spi := y } = read s :=
    fun s m y => (spi { s with misoOut := m } y).trans (miso s m)
  have byte : ∀ (s : State) phase b, read (s.spiByte phase b) = read s := by
    intro s phase b
    unfold State.spiByte
    dsimp only
    cases phase with
    | command =>
      dsimp only
      cases spiCommand b
      · exact two s _ _
      · exact two s _ _
      · exact (port _ _).trans (two s _ _)
      · exact two s _ _
    | writing got =>
      dsimp only
      split
      · exact two s _ _
      · split
        · cases parseFrame (got ++ [b])
          · exact two s _ _
          · exact (port _ _).trans (two s _ _)
        · exact two s _ _
    | reading slot left => exact two s _ _
    | ignoring => exact two s _ _
  unfold State.line
  split
  · cases e with
    | csAssert => exact spi s _
    | csDeassert => exact spi s _
    | urxHigh => exact urx s _
    | sck mosi => rfl
    | utxCharacter => rfl
  · cases e with
    | csAssert =>
      simp only [State.runningLine]
      cases s.spi
      · exact (spi { s with misoOut := [] } _).trans (miso s [])
      · rfl
    | sck mosi =>
      simp only [State.runningLine, State.spiPulse]
      cases s.spi with
      | deselected => rfl
      | selected phase bits =>
        dsimp only
        split
        · exact spi _ _
        · exact byte _ _ _
    | csDeassert =>
      simp only [State.runningLine, State.spiEnd]
      split
      · exact (port _ _).trans (spi _ _)
      · exact spi _ _
    | urxHigh => exact urx _ _
    | utxCharacter =>
      simp only [State.runningLine]
      split
      · exact utx _ _
      · exact utx _ _
      · rfl
      · rfl

@[simp] theorem State.lane_line (s : State) (e : LineEvent) (i : LaneId) : (s.line e).lane i = s.lane i :=
  State.line_same (fun t => t.lane i) (fun _ _ => rfl) (fun _ _ => rfl) (fun _ _ => rfl) (fun _ _ => rfl) (fun _ _ => rfl) s e

@[simp] theorem State.poolFree_line (s : State) (e : LineEvent) : (s.line e).poolFree = s.poolFree :=
  State.line_same State.poolFree (fun _ _ => rfl) (fun _ _ => rfl) (fun _ _ => rfl) (fun _ _ => rfl) (fun _ _ => rfl) s e

@[simp] theorem State.link_line (s : State) (e : LineEvent) : (s.line e).link = s.link :=
  State.line_same State.link (fun _ _ => rfl) (fun _ _ => rfl) (fun _ _ => rfl) (fun _ _ => rfl) (fun _ _ => rfl) s e

@[simp] theorem State.frames_line (s : State) (e : LineEvent) : (s.line e).frames = s.frames :=
  State.line_same State.frames (fun _ _ => rfl) (fun _ _ => rfl) (fun _ _ => rfl) (fun _ _ => rfl) (fun _ _ => rfl) s e

@[simp] theorem State.portU_line (s : State) (e : LineEvent) : (s.line e).portU = s.portU :=
  State.line_same State.portU (fun _ _ => rfl) (fun _ _ => rfl) (fun _ _ => rfl) (fun _ _ => rfl) (fun _ _ => rfl) s e

@[simp] theorem State.held_line (s : State) (e : LineEvent) : (s.line e).held = s.held :=
  State.line_same State.held (fun _ _ => rfl) (fun _ _ => rfl) (fun _ _ => rfl) (fun _ _ => rfl) (fun _ _ => rfl) s e

@[simp] theorem State.framer_line (s : State) (e : LineEvent) : (s.line e).framer = s.framer :=
  State.line_same State.framer (fun _ _ => rfl) (fun _ _ => rfl) (fun _ _ => rfl) (fun _ _ => rfl) (fun _ _ => rfl) s e

@[simp] theorem State.gapTimer_line (s : State) (e : LineEvent) : (s.line e).gapTimer = s.gapTimer :=
  State.line_same State.gapTimer (fun _ _ => rfl) (fun _ _ => rfl) (fun _ _ => rfl) (fun _ _ => rfl) (fun _ _ => rfl) s e

/-- Port S after a byte has been received whole: as it was, reset, or with a frame that arrived. -/
theorem State.portS_spiByte (s : State) (phase : SpiPhase) (b : Byte) :
    (s.spiByte phase b).portS = s.portS ∨ (s.spiByte phase b).portS = s.portS.portReset
      ∨ ∃ q, (s.spiByte phase b).portS = s.portS.arrive q := by
  unfold State.spiByte
  dsimp only
  cases phase with
  | command =>
    dsimp only
    cases spiCommand b
    · exact .inl rfl
    · exact .inl rfl
    · exact .inr (.inl rfl)
    · exact .inl rfl
  | writing got =>
    dsimp only
    split
    · exact .inl rfl
    · split
      · cases parseFrame (got ++ [b]) with
        | none => exact .inl rfl
        | some q => exact .inr (.inr ⟨q, rfl⟩)
      · exact .inl rfl
  | reading slot left => exact .inl rfl
  | ignoring => exact .inl rfl

/-- Port S after a pin's event: as it was, reset, with a frame that arrived, or with the response delivered that its transaction has shifted
out whole. -/
theorem State.portS_line (s : State) (e : LineEvent) :
    (s.line e).portS = s.portS ∨ (s.line e).portS = s.portS.portReset ∨ (∃ q, (s.line e).portS = s.portS.arrive q)
      ∨ ∃ k bits, s.spi = .selected (.reading (some k) []) bits ∧ (s.line e).portS = s.portS.deliver k := by
  unfold State.line
  split
  · cases e <;> exact .inl rfl
  · cases e with
    | csAssert => simp only [State.runningLine]; cases s.spi <;> exact .inl rfl
    | sck mosi =>
      simp only [State.runningLine, State.spiPulse]
      cases s.spi with
      | deselected => exact .inl rfl
      | selected phase bits =>
        dsimp only
        split
        · exact .inl rfl
        · rcases s.portS_spiByte phase (byteOfBits (bits ++ [mosi])) with h | h | h
          · exact .inl h
          · exact .inr (.inl h)
          · exact .inr (.inr (.inl h))
    | csDeassert =>
      simp only [State.runningLine, State.spiEnd]
      split
      · rename_i k bits h
        exact .inr (.inr (.inr ⟨k, bits, h, rfl⟩))
      · exact .inl rfl
    | urxHigh => exact .inl rfl
    | utxCharacter => simp only [State.runningLine]; split <;> exact .inl rfl

/-! ## A byte clocked into port S -/

/-- The eight bits of a byte, the first the most significant, make the byte. -/
theorem byteOfBits_bits (b : Byte) : byteOfBits ((List.range 8).map fun k => b.getLsbD (7 - k)) = b := by
  revert b; decide +kernel

theorem lines_cons (s : State) (e : LineEvent) (es : List LineEvent) : lines s (e :: es) = lines (s.line e) es := rfl

theorem lines_append (s : State) (es fs : List LineEvent) : lines s (es ++ fs) = lines (lines s es) fs := List.foldl_append

/-- The first seven bits of a byte only join the byte. -/
theorem State.line_sck_of_lt {s : State} {phase : SpiPhase} {bits : List Bool} (h : s.held = false)
    (hs : s.spi = .selected phase bits) (hb : bits.length < 7) (x : Bool) :
    s.line (.sck x) = { s with spi := .selected phase (bits ++ [x]) } := by
  simp only [State.line, h, State.runningLine, State.spiPulse, hs, hb, if_true, Bool.false_eq_true, if_false]

/-- The eighth bit makes the byte whole. -/
theorem State.line_sck_eighth {s : State} {phase : SpiPhase} {bits : List Bool} (h : s.held = false)
    (hs : s.spi = .selected phase bits) (hb : bits.length = 7) (x : Bool) :
    s.line (.sck x) = s.spiByte phase (byteOfBits (bits ++ [x])) := by
  simp only [State.line, h, State.runningLine, State.spiPulse, hs, hb, lt_irrefl, if_false, Bool.false_eq_true]

/-- What a byte does depends on the phase that it is given, not on the state's own. -/
theorem State.spiByte_spi (s : State) (x : Spi) (phase : SpiPhase) (b : Byte) :
    { s with spi := x }.spiByte phase b = s.spiByte phase b := by
  unfold State.spiByte
  cases phase <;> rfl

/-- Pulses that leave the byte incomplete only join its bits. -/
theorem lines_sck_of_lt (xs : List Bool) : ∀ {s : State} {phase : SpiPhase} {bits : List Bool}, s.held = false →
    s.spi = .selected phase bits → bits.length + xs.length < 8 →
    lines s (xs.map .sck) = { s with spi := .selected phase (bits ++ xs) } := by
  induction xs with
  | nil =>
    intro s phase bits _ hs _
    rw [List.append_nil, ← hs]
    rfl
  | cons x xs ih =>
    intro s phase bits h hs hb
    rw [List.length_cons] at hb
    rw [List.map_cons, lines_cons, State.line_sck_of_lt h hs (by omega)]
    have hi := ih (s := { s with spi := .selected phase (bits ++ [x]) }) (phase := phase) (bits := bits ++ [x]) h rfl
      (by rw [List.length_append, List.length_singleton]; omega)
    rw [hi, List.append_assoc]
    rfl

/-- Eight pulses are one byte received (R142). -/
theorem lines_pulses {s : State} {phase : SpiPhase} (h : s.held = false) (hs : s.spi = .selected phase []) (b : Byte) :
    lines s (pulses b) = s.spiByte phase b := by
  have split : pulses b = ((List.range 7).map fun k => b.getLsbD (7 - k)).map .sck ++ [.sck (b.getLsbD 0)] := rfl
  have whole : ((List.range 7).map fun k => b.getLsbD (7 - k)) ++ [b.getLsbD 0] = (List.range 8).map fun k => b.getLsbD (7 - k) := rfl
  rw [split, lines_append, lines_sck_of_lt _ h hs (by simp), lines_cons, List.nil_append]
  have he := State.line_sck_eighth (s := { s with spi := .selected phase ((List.range 7).map fun k => b.getLsbD (7 - k)) })
    (phase := phase) h rfl (by simp) (b.getLsbD 0)
  rw [he, whole, byteOfBits_bits]
  exact State.spiByte_spi s _ phase b

end Sys2Proof.Machine
end

