-- ==== Sys2Proof/Laws/Trips.lean ====
section
/-! SUPPORT. Events that reach many lanes: what a fold over the lanes leaves of each lane, of the pool and of the rest of the state; the
cascade of a trip and of a resolution; reports and the sets they reach. -/

namespace Sys2Proof.Machine

open Sys2Proof.Safety

/-! ## Folds over the lanes -/

/-- A fold whose step at j writes lane j alone leaves lane i what the step at i made of it. -/
theorem foldl_lane {f : State → LaneId → State} {g : LaneId → Option Lane → Option Lane}
    (h : ∀ s j i, (f s j).lane i = if i = j then g j (s.lane j) else s.lane i) (i : LaneId) :
    ∀ (js : List LaneId), js.Nodup → ∀ s, (js.foldl f s).lane i = if i ∈ js then g i (s.lane i) else s.lane i := by
  intro js
  induction js with
  | nil => intro _ s; simp
  | cons j js ih =>
    intro hn s
    rw [List.nodup_cons] at hn
    rw [List.foldl_cons, ih hn.2, h]
    by_cases hij : i = j
    · subst hij
      simp [hn.1]
    · simp [hij]

/-- The same over all lanes. -/
theorem foldl_allLanes_lane {f : State → LaneId → State} {g : LaneId → Option Lane → Option Lane}
    (h : ∀ s j i, (f s j).lane i = if i = j then g j (s.lane j) else s.lane i) (i : LaneId) (s : State) :
    (allLanes.foldl f s).lane i = g i (s.lane i) := by
  rw [foldl_lane h i allLanes allLanes_nodup, if_pos (mem_allLanes i)]

/-- A part of the state that no step of a fold changes is unchanged by the fold. -/
theorem foldl_same {α : Type} {f : State → LaneId → State} (read : State → α) (h : ∀ s j, read (f s j) = read s)
    (js : List LaneId) (s : State) : read (js.foldl f s) = read s := by
  induction js generalizing s with
  | nil => rfl
  | cons j js ih => rw [List.foldl_cons, ih, h]

/-- A property that every step of a fold keeps is kept by the fold. -/
theorem foldl_keeps {f : State → LaneId → State} (P : State → Prop) (h : ∀ s j, P s → P (f s j)) (js : List LaneId) (s : State)
    (hs : P s) : P (js.foldl f s) := by
  induction js generalizing s with
  | nil => exact hs
  | cons j js ih => exact ih _ (h s j hs)

/-! ## The pool (R52) -/

theorem sum_map_set (js : List LaneId) (hn : js.Nodup) (a b : LaneId → Nat) (i : LaneId) (hi : i ∈ js)
    (h : ∀ j, j ≠ i → a j = b j) : (js.map a).sum + b i = (js.map b).sum + a i := by
  induction js with
  | nil => cases hi
  | cons j js ih =>
    rw [List.nodup_cons] at hn
    rcases List.mem_cons.1 hi with rfl | hi
    · have : js.map a = js.map b := List.map_congr_left fun k hk => h k fun e => hn.1 (e ▸ hk)
      simp only [List.map_cons, List.sum_cons, this]
      omega
    · have hj : j ≠ i := fun e => hn.1 (e ▸ hi)
      have := ih hn.2 hi
      simp only [List.map_cons, List.sum_cons, h j hj]
      omega

/-- Writing a record keeps free count and queues together, if the pool covers what the record takes. -/
theorem poolLaw_putLane {s : State} {i : LaneId} {o : Option Lane} (hs : PoolLaw s)
    (h : queueLen o ≤ s.poolFree + queueLen (s.lane i)) : PoolLaw (s.putLane i o) := by
  unfold PoolLaw queued at *
  have key := sum_map_set allLanes allLanes_nodup (fun j => queueLen ((s.putLane i o).lane j)) (fun j => queueLen (s.lane j)) i
    (mem_allLanes i) (fun j hj => by simp [State.lane_putLane_of_ne _ _ hj])
  simp only [State.lane_putLane_self] at key
  rw [State.putLane_poolFree]
  omega

/-- What PoolLaw reads. -/
theorem poolLaw_congr {s t : State} (hl : ∀ j, t.lane j = s.lane j) (hp : t.poolFree = s.poolFree) (hs : PoolLaw s) : PoolLaw t := by
  unfold PoolLaw queued at *
  simpa [hl, hp] using hs

/-! ## Reports (R183, R184) -/

/-- A set that takes a report of a lane changes that lane's entries alone. -/
theorem AttnSet.lanes_onLane (a : AttnSet) (i j : LaneId) (f : LaneAttn → LaneAttn) :
    (a.onLane i f).lanes[j] = if j = i then f a.lanes[i] else a.lanes[j] := by
  unfold AttnSet.onLane
  by_cases h : j = i
  · subst h; simp
  · have h' : (i : Nat) ≠ (j : Nat) := fun e => h (Fin.ext e.symm)
    simp [h, Vector.getElem_set_ne _ _ h']

theorem AttnSet.onLane_same (a : AttnSet) (i : LaneId) : (a.onLane i fun _ => a.lanes[i]) = a := by
  cases a with
  | mk lapsed overrun lanes =>
    simp only [AttnSet.onLane, AttnSet.mk.injEq, true_and]
    ext j hj
    by_cases h : (i : Nat) = j
    · subst h; simp
    · simp

/-- What a report leaves of a port: a routed, enabled report joins the set, another changes nothing. -/
theorem State.port_report (s : State) (i : LaneId) (r : LaneReport) (p : PortId) :
    (s.report i r).port p = if routed s i p then (s.port p).takeLane i r else s.port p := by
  unfold State.report routed
  cases h : (s.lane i).bind Lane.claim with
  | none => cases p <;> rfl
  | some c =>
    cases hp : c.port <;> cases p <;> simp [State.modPort, hp]

theorem Port.takeLane_eq (p : Port) (i : LaneId) (r : LaneReport) :
    p.takeLane i r = { p with attn := p.attn.onLane i fun a => if p.mask.getLsbD r.kind then a.take r else a } := by
  unfold Port.takeLane
  split
  · simp
  · rename_i h
    have : (p.attn.onLane i fun a => a) = p.attn := by
      have := AttnSet.onLane_same p.attn i
      unfold AttnSet.onLane at *
      exact this
    simp [this]

/-! ## A trip and its cascade (R85 to R87, R103) -/

/-- What one lane's part in a trip event makes of its record. -/
def tripRecord (before : State) (root : LaneId) (c : TripCause) (code : Nat) (j : LaneId) (o : Option Lane) : Option Lane :=
  match before.lane j with
  | none => o
  | some l =>
    if before.trips root j then some (l.enterTripped (if j = root then c else .cascade) (if j = root then code else 0))
    else if before.retrips root l then some { l with mode := l.mode.retrip .cascade 0 }
    else o

/-- One lane's part in a trip event writes that lane alone. -/
theorem lane_tripOne (before : State) (root : LaneId) (c : TripCause) (code : Nat) (s : State) (j i : LaneId) :
    (before.tripOne root c code s j).lane i = if i = j then tripRecord before root c code j (s.lane j) else s.lane i := by
  unfold State.tripOne tripRecord
  cases hb : before.lane j with
  | none => by_cases h : i = j <;> simp [h]
  | some l =>
    by_cases ht : before.trips root j = true
    · simp only [ht, if_true, State.lane_pushRef, State.lane_report, State.lane_putLane]
    · by_cases hr : before.retrips root l = true
      · simp [ht, hr, State.lane_putLane]
      · by_cases h : i = j <;> simp [ht, hr, h]

/-- Every lane after a trip event. -/
theorem lane_enterTripped (s : State) (root : LaneId) (c : TripCause) (code : Nat) (i : LaneId) :
    (s.enterTripped root c code).lane i = tripRecord s root c code i (s.lane i) :=
  foldl_allLanes_lane (g := tripRecord s root c code) (lane_tripOne s root c code) i s

/-- What a trip event leaves besides lanes, pool, list and sets. -/
theorem enterTripped_rest (s : State) (root : LaneId) (c : TripCause) (code : Nat) :
    SameLines s (s.enterTripped root c code) ∧ (s.enterTripped root c code).link = s.link
      ∧ (s.enterTripped root c code).lastServed = s.lastServed := by
  unfold State.enterTripped
  have h : ∀ {α : Type} (read : State → α), (∀ t i o, read (State.putLane t i o) = read t) →
      (∀ t i r, read (State.report t i r) = read t) → (∀ t i, read (State.pushRef t i) = read t) →
      read (allLanes.foldl (s.tripOne root c code) s) = read s := by
    intro α read h1 h2 h3
    refine foldl_same read ?_ _ _
    intro t j
    unfold State.tripOne
    split
    · rfl
    · split
      · rw [h3, h2, h1]
      · split
        · rw [h2, h1]
        · rfl
  refine ⟨⟨h State.pending ?_ ?_ ?_, h State.held ?_ ?_ ?_, h State.haltLevel ?_ ?_ ?_, h State.haltPin ?_ ?_ ?_,
    h State.haltRun ?_ ?_ ?_, h State.haltIn ?_ ?_ ?_, h State.ticks ?_ ?_ ?_, h State.framer ?_ ?_ ?_, h State.gapTimer ?_ ?_ ?_,
    h State.urxLow ?_ ?_ ?_, h State.uTx ?_ ?_ ?_, h State.spi ?_ ?_ ?_, h State.misoOut ?_ ?_ ?_, h State.lineIn ?_ ?_ ?_,
    h State.straps ?_ ?_ ?_⟩, h State.link ?_ ?_ ?_, h State.lastServed ?_ ?_ ?_⟩ <;>
    intros <;> simp

/-! ## Leaving TRIPPED and its cascade (R88, R106, R107, R112) -/

/-- Answering an overtaken CLEAR reaches no lane. -/
@[simp] theorem lane_preemptClear (s : State) (j : LaneId) (m : Option Marker) (i : LaneId) :
    (s.preemptClear j m).lane i = s.lane i := by
  unfold State.preemptClear
  cases m with
  | none => rfl
  | some m => exact State.lane_modPort s m.port _ i

theorem lane_leaveOne (s : State) (j : LaneId) (l : Lane) (a : Bool) (i : LaneId) :
    (s.leaveOne j l a).lane i = if i = j then some (l.leaveTripped a) else s.lane i := by
  unfold State.leaveOne
  cases a <;> simp [State.lane_putLane]

/-- What one lane's part in a resolution event makes of its record. -/
def leaveRecord (before : State) (root : LaneId) (a : Bool) (j : LaneId) (o : Option Lane) : Option Lane :=
  match before.lane j with
  | none => o
  | some l =>
    match before.leaves root a j with
    | some t => some (l.leaveTripped t)
    | none =>
      match l.source.link with
      | none => o
      | some k =>
        if l.mode.cascadeUnresolved && (before.leaves root a k.parent).isSome then some { l with mode := l.mode.resolve } else o

/-- One lane's part in a resolution event writes that lane alone. -/
theorem lane_resolveOne (before : State) (root : LaneId) (a : Bool) (s : State) (j i : LaneId) :
    (before.resolveOne root a s j).lane i = if i = j then leaveRecord before root a j (s.lane j) else s.lane i := by
  unfold State.resolveOne leaveRecord
  cases hb : before.lane j with
  | none => by_cases h : i = j <;> simp [h]
  | some l =>
    cases hl : before.leaves root a j with
    | some t => simp only [lane_leaveOne]
    | none =>
      cases hk : l.source.link with
      | none => by_cases h : i = j <;> simp [h, hk]
      | some k =>
        by_cases hc : (l.mode.cascadeUnresolved && (before.leaves root a k.parent).isSome) = true
        · simp only [hk, hc, if_true, State.lane_putLane]
        · by_cases h : i = j <;> simp only [h, hk, hc] <;> simp

/-- Every lane after a resolution event. -/
theorem lane_leaveTripped (s : State) (root : LaneId) (a : Bool) (i : LaneId) :
    (s.leaveTripped root a).lane i = leaveRecord s root a i (s.lane i) :=
  foldl_allLanes_lane (g := leaveRecord s root a) (lane_resolveOne s root a) i s

/-! ## HALT and lease expiry, lane by lane (R100, R129 to R132) -/

theorem lane_haltOne (s : State) (j i : LaneId) :
    (s.haltOne j).lane i = if i = j then (s.lane j).map (fun l => match l.mode with
      | .active _ _ => l.enterStopping .halt
      | .defining _ => l
      | .standby => l
      | .stopping _ => l
      | .tripped _ _ _ _ => l) else s.lane i := by
  unfold State.haltOne
  cases hl : s.lane j with
  | none => by_cases h : i = j <;> simp [h, hl]
  | some l =>
    cases hm : l.mode <;> by_cases h : i = j <;> simp [h, hl, hm, State.lane_putLane]

end Sys2Proof.Machine
end

