-- ==== Sys2Proof/Tests/Slice0.lean ====
section
/-! SUPPORT. Tests: ill-formed commands, byte formats against the spec's own numbers, and for each statement a concrete state and
operands that meet its hypotheses, clause by clause, with what the command then does. -/

namespace Sys2Proof.Tests

open Sys2Proof.Machine Sys2Proof.Safety

/-! ## Commands that are not what their row says -/

theorem test_goodFrame_ill_formed : (Instr.goodFrame .u [1#8, 2#8]).wellFormed = false := by decide +kernel

theorem test_frameDiscard_ill_formed :
    (Instr.frameDiscard .s (frameBytes 1 0x54 255 0 [])).wellFormed = false := by decide +kernel

theorem test_writeAborted_ill_formed :
    (Instr.writeAborted (frameBytes 1 0x54 255 0 [])).wellFormed = false := by decide +kernel

theorem test_driveReply_ill_formed : (Instr.driveReply [1#8, 0x70#8]).wellFormed = false := by decide +kernel

theorem test_goodFrame_well_formed : (Instr.goodFrame .u (frameBytes 1 0x54 255 0 [])).wellFormed = true := by decide +kernel

theorem test_no_word_spells_a_command : decodeTableWord 32 0xA5 = none := rfl

/-! ## Byte formats (R192 to R194) -/

/-- The check string of both CRCs, the nine digits. -/
def digits : List Byte := [0x31, 0x32, 0x33, 0x34, 0x35, 0x36, 0x37, 0x38, 0x39]

theorem test_crc16_check : crc16 digits = 0x29B1#16 := by decide +kernel

theorem test_crc8_check : crc8 digits = 0x20#8 := by decide +kernel

/-- Elaborated at once, and its bound goes through the kernel: the compile waits here for the theorems above, so that few of them hold
a thread at a time (as every pause below). -/
def pause1 : Fin 24 := ⟨1, by decide +kernel⟩

/-- The IDENT frame of chapter 10. -/
theorem test_ident_frame : linkChars 1 0x62 [] = [0x01#8, 0x62#8, 0x9A#8] := by decide +kernel

/-- The signed and the packed fields of R192 at their ends. -/
theorem test_signed_field_ends : s16Bytes (-30000) = [0x8A#8, 0xD0#8] ∧ s16At [0x8A#8, 0xD0#8] 0 = -30000
    ∧ s16At [0x75#8, 0x30#8] 0 = 30000 := by decide +kernel

theorem test_segment_ends :
    segmentOf [0#8, 0x75#8, 0x31#8, 0#8, 1#8, 0#8, 0#8, 0#8, 0#8, 0#8, 0#8] = none
    ∧ segmentOf [0#8, 0x75#8, 0x30#8, 0#8, 1#8, 0x0F#8, 0xFF#8, 0#8, 0#8, 1#8, 9#8]
        = some { body := .ramp 30000 1 4095, notify := true, tag := 9 }
    ∧ segmentOf [1#8, 0#8, 0#8, 0#8, 0#8, 0#8, 0#8, 0#8, 0#8, 0#8, 0#8] = none
    ∧ segmentOf [1#8, 0#8, 0#8, 0#8, 0#8, 0#8, 0#8, 0xFF#8, 0xFF#8, 0#8, 0#8]
        = some { body := .dwell 65535, notify := false, tag := 0 } := by decide +kernel

theorem test_request_round_trip : (parseFrame (frameBytes 7 0x24 3 500 [0xFF#8, 0x38#8])).map Request.payload
    = some [0xFF#8, 0x38#8] := by decide +kernel

/-! ## Small states -/

/-- A lane in STANDBY at drive address 3, with a READY view, no claim and an empty queue. -/
def base : Lane :=
  { cfg := { address := 3, periodCode := 2, lowLimit := 0, highLimit := 5000, slewStep := 500, blendStep := 200, stopStep := 1500
             autoResume := false, coupled := true, fallback := .stop }
    pinned := false, driveType := some 4, source := .fixed, setPoint := 1000, output := 0, track := .blending, queue := []
    claim := none, view := some { state := .ready, atRef := false, tripCode := 0, feedback := 0 }, misses := 0
    mode := .standby, timer := some 4 }

/-- A record in another mode. -/
def inMode (m : Mode) : Lane := { base with mode := m }

/-- A marker. -/
def mark : Marker := { port := .u, slot := 2 }

/-- A segment. -/
def dwell : Segment := { body := .dwell 5, notify := true, tag := 9 }

/-- An ACTIVE lane at output 800 with its profile loaded. -/
def loaded (held : Option Int) (run : Run) : Lane := { inMode (.active held run) with output := 800, queue := [dwell] }

/-- State.reset with one lane, lane 3. -/
def one (l : Lane) : State := State.reset.putLane 3 (some l)

/-- A request in slot 0 of port S, as the only work there is. -/
def ctx (code : Byte) (lane : Byte) (key : Half) (payload : List Byte) : Ctx :=
  { port := .s, slot := 0, req := { seq := 5, code := code, lane := lane, key := key, payload := payload, crc := 9 }, lapsed := false }

/-- The state with that request QUEUED. -/
def asked (c : Ctx) (s : State) : State :=
  s.modPort .s fun p => { p.setSlot 0 (.queued c.req false) with order := [0] }

/-- The state after a command. -/
def after (c : Instr) (s : State) : State :=
  match exec c s with
  | .next t => t
  | .fault _ => s
  | .refused _ => s

/-- The result in slot 0 of port S, if it is ANSWERED. -/
def result (t : State) : Option Result :=
  match t.portS.slots[0] with
  | .answered r => some r.result
  | .free => none
  | .queued _ _ => none
  | .executing _ _ => none

/-- Slot 0 of port S is EXECUTING. -/
def waiting (t : State) : Bool :=
  match t.portS.slots[0] with
  | .executing _ _ => true
  | .answered _ => false
  | .free => false
  | .queued _ _ => false

/-- The request is served. -/
def serves (row : Instr) (c : Ctx) (s : State) : Bool :=
  decide (s.held = false) && decide (s.choice = some c) && decide (rowOfCode c.req.code = row)

theorem serves_sound {row : Instr} {c : Ctx} {s : State} (h : serves row c s = true) : Serves s c row := by
  simp only [serves, Bool.and_eq_true, decide_eq_true_eq] at h
  exact ⟨h.1.1, h.1.2, h.2⟩

/-- Steps 5 and 6 pass. -/
def keyB (s : State) (c : Ctx) (claiming : Bool) (l : Lane) : Bool :=
  match l.claim with
  | none => !claiming || !(s.port c.port).barred
  | some cl => !(s.port c.port).barred && decide (cl = { port := c.port, key := c.req.key })

/-- Steps 3 to 7 pass. -/
def reaches (s : State) (c : Ctx) (i : LaneId) (l : Lane) (claiming : Bool) : Bool :=
  decide (laneOf c.req.lane = some i) && decide (s.lane i = some l) && keyB s c claiming l && !l.mode.isPending

theorem reaches_sound {s : State} {c : Ctx} {i : LaneId} {l : Lane} {claiming : Bool} (h : reaches s c i l claiming = true) :
    Reaches s c i l claiming := by
  simp only [reaches, Bool.and_eq_true, decide_eq_true_eq, Bool.not_eq_true'] at h
  refine ⟨h.1.1.1, h.1.1.2, ?_, h.2⟩
  have hk := h.1.2
  unfold keyB at hk
  unfold keyPasses
  cases hc : l.claim with
  | none => rw [hc] at hk; cases claiming <;> simp_all
  | some cl => rw [hc] at hk; simpa using hk

/-- A request of lane 3 that reaches its own steps on this record in this state, and its result (none: it waits). -/
def trial (row : Instr) (claiming : Bool) (key : Half) (payload : List Byte) (l : Lane) (s : State) (r : Option Result) : Bool :=
  match reqCode row with
  | none => false
  | some code =>
    let c := ctx code 3 key payload
    let t := asked c (s.putLane 3 (some l))
    serves row c t && reaches t c 3 l claiming && decide (result (after row t) = r)

/-- What a trial shows: a state, a request and a record that meet the hypotheses of the row's statement together. -/
theorem trial_sound {row : Instr} {claiming : Bool} {key : Half} {payload : List Byte} {l : Lane} {s : State} {r : Option Result}
    (h : trial row claiming key payload l s r = true) :
    ∃ t c, Serves t c row ∧ c.req.payload = payload ∧ c.req.key = key ∧ Reaches t c 3 l claiming := by
  unfold trial at h
  cases hc : reqCode row with
  | none => rw [hc] at h; cases h
  | some code =>
    rw [hc] at h
    simp only [Bool.and_eq_true] at h
    exact ⟨_, _, serves_sound h.1.1, rfl, rfl, reaches_sound h.1.2⟩

/-- A request of any lane field that is served in this state, and its result (none: it waits). -/
def served (row : Instr) (lane : Byte) (key : Half) (payload : List Byte) (s : State) (r : Option Result) : Bool :=
  match reqCode row with
  | none => false
  | some code =>
    let t := asked (ctx code lane key payload) s
    serves row (ctx code lane key payload) t && decide (result (after row t) = r)

/-! ## The step and the ticks -/

theorem witness_StepRunsFrontCommand : { State.reset with pending := [.nop, .start] }.pending = .nop :: [.start] := rfl

/-- A pause. -/
def pause2 : Fin 24 := ⟨2, by decide +kernel⟩

/-- A state in which every kind of event falls on the next tick. -/
def dueState : State :=
  { (one { base with timer := some 1 }) with
    gapTimer := some 1, haltRun := 2, haltIn := [true]
    portU := { Port.reset with lease := { period := 1, lapsed := false, timer := some 1 } } }

theorem witness_EmptyQueueTicks :
    dueState.pending = [] ∧ dueState.held = false
    ∧ dueState.tickEvents = [.haltAssertion, .laneUpdate 3, .leaseExpiry .u, .gapTimerExpiry]
    ∧ { dueState with haltLevel := true, haltIn := [false] }.tickEvents.head? = some .haltRelease
    ∧ { dueState with haltRun := 1, gapTimer := some 2, lanes := (one { base with timer := some 2 }).lanes }.tickEvents
        = [.leaseExpiry .u]
    ∧ dueState.lineIn = [] ∧ { dueState with lineIn := [.csAssert, .csDeassert] }.quiet
        = { dueState with spi := .selected .command [], lineIn := [.csDeassert] } := by decide +kernel

theorem witness_HeldPartTakesNothing :
    (after (.resetNAssertion { baud1 := true, baud0 := false }) State.reset).held = true := by decide +kernel

/-! ## Resets, HALT, frames -/

theorem witness_HaltStopsActiveLanes :
    (one (loaded none .idle)).held = false
    ∧ ((after .haltAssertion (one (loaded none .idle))).lane 3).map Lane.mode = some (.stopping .halt)
    ∧ (after .haltAssertion (one (loaded none .idle))).poolFree = (one (loaded none .idle)).poolFree + 1
    ∧ ((after .haltAssertion (one base)).lane 3).map Lane.mode = some .standby := by decide +kernel

/-- Port S in the middle of a write-request, with port U in a break. -/
def inTransaction : State := { State.reset with spi := .selected (.writing [1#8]) [true], misoOut := [0xFF#8, 0xFF#8], urxLow := true }

theorem witness_ResetsGiveTheirValues :
    (after (.powerOn { baud1 := true, baud0 := false }) inTransaction).spi = .selected .ignoring []
    ∧ (after (.resetNAssertion { baud1 := true, baud0 := false }) inTransaction).urxLow = true
    ∧ (after (.resetNAssertion { baud1 := true, baud0 := false }) State.reset).spi = .deselected
    ∧ (after (.powerOn { baud1 := true, baud0 := false })
        { State.reset with link := .sending { lane := 3, kind := .clear, address := 3, stale := false } [3#8] }).dltx 0 = true := by
  decide +kernel

theorem test_reset_n_keeps_strikes :
    let s := { State.reset with portU := { Port.reset with strikes := 5, barred := true } }
    (after (.resetNAssertion { baud1 := false, baud0 := true }) s).portU.strikes = 5
    ∧ (after (.powerOn { baud1 := false, baud0 := true }) s).portU.strikes = 0 := by decide +kernel

/-- A NOP frame, and what its reader gives. -/
def nopFrame : List Byte := frameBytes 5 0x54 255 0 []

/-- The duplicate store that names the NOP frame. -/
def nopStore (copy : Option Copy) : DupStore :=
  { seq := 5, crc := BitVec.ofNat 16 (u16At nopFrame 6), slot := 1, copy := copy }

/-- State.reset with port U changed. -/
def atU (f : Port → Port) : State := State.reset.modPort .u f

/-- Port U with no FREE slot. -/
def fullPort (p : Port) : Port :=
  { p with slots := Vector.replicate 4 (.answered
      { seq := 1, code := 2, result := .ok, lapsed := false, duplicate := false, payload := [] }), order := [0, 1, 2, 3] }

theorem witness_FramesThatTakeNoSlot :
    (parseFrame nopFrame).map (fun q => (q.seq, q.crc)) = some ((nopStore none).seq, (nopStore none).crc)
    ∧ (after (.goodFrame .u nopFrame) (atU fun p => { p with dup := some (nopStore none) })).portU.order = []
    ∧ (∀ k : SlotId, (atU fullPort).portU.slots[k].isFree = false)
    ∧ (after (.goodFrame .u nopFrame) (atU fullPort)).portU.attn.overrun = true
    ∧ (after (.goodFrame .u nopFrame) (atU fun p => { fullPort p with mask := 0#10 })).portU.attn.overrun = false
    ∧ (after (.goodFrame .s nopFrame) (State.reset.modPort .s fullPort)).portS.attn.overrun = true
    ∧ (after (.goodFrame .s nopFrame) inTransaction) = inTransaction := by
  decide +kernel

theorem witness_AnsweredDuplicateTakesCopy :
    let s := atU fun p => { p with dup := some (nopStore (some { result := .ok, payload := [] })), lease := { period := 0, lapsed := true, timer := none } }
    (s.port .u).slots[0].isFree = true
    ∧ (after (.goodFrame .u nopFrame) s).portU.slots[0]
        = .answered { seq := 5, code := 0x54, result := .ok, lapsed := true, duplicate := true, payload := [] } := by decide +kernel

theorem witness_GoodFrameTakesSlot :
    let s := atU fun p => { fullPort p with
      slots := (fullPort p).slots.set 3 .free, order := [0, 1, 2], lease := { period := 2, lapsed := false, timer := some 1 } }
    s.portU.slots[3].isFree = true ∧ (after (.goodFrame .u nopFrame) s).portU.order = [0, 1, 2, 3]
    ∧ (after (.goodFrame .u nopFrame) s).portU.lease.timer = some 20 := by decide +kernel

theorem witness_DiscardedFramesReachNothing :
    { State.reset with gapTimer := some 2, framer := .receiving [1#8] }.gapTimer.isSome = true
    ∧ (after .gapTimerExpiry { State.reset with gapTimer := some 2, framer := .receiving [1#8] }).framer = .hunt
    ∧ (after .framingError { State.reset with framer := .receiving [1#8] }).framer = .hunt
    ∧ (after (.writeAborted [1#8]) State.reset).misoOut = [0xFF#8, 0xFF#8]
    ∧ transaction State.reset [0x3D#8, 0xA5#8] = { State.reset with misoOut := [0xFF#8, 0xFF#8] }
    ∧ lines State.reset [.csAssert, .sck true, .sck false, .csDeassert] = State.reset
    ∧ lines { State.reset with spi := .selected .ignoring [true] } ((List.replicate 8 (.sck true)) ++ [.csDeassert])
        = { State.reset with misoOut := [0xFF#8] } := by decide +kernel

/-- A pause. -/
def pause3 : Fin 24 := ⟨3, by decide +kernel⟩

theorem witness_CharactersArriveAsFrames :
    State.reset.framer = .hunt
    ∧ (after (.receivedCharacter 0xA5#8) State.reset).framer = .receiving []
    ∧ (after (.receivedCharacter 0xA4#8) State.reset).framer = .hunt
    ∧ (after (.receivedCharacter 33#8) { State.reset with framer := .receiving [1#8, 2#8, 3#8, 4#8, 5#8] }).framer = .hunt
    ∧ (after (.receivedCharacter 32#8) { State.reset with framer := .receiving [1#8, 2#8, 3#8, 4#8] }).framer
        = .receiving [1#8, 2#8, 3#8, 4#8, 32#8]
    ∧ nopFrame.length = 8
    ∧ (characters (0xA5#8 :: nopFrame) State.reset).portU.order = [0]
    ∧ (characters (0xA5#8 :: nopFrame.set 7 0) State.reset) = State.reset
    ∧ (after (.receivedCharacter 7#8) { State.reset with framer := .receiving (nopFrame.take 6) }).framer = .receiving (nopFrame.take 6 ++ [7#8])
    ∧ (after (.receivedCharacter 0xA5#8) { State.reset with urxLow := true }).framer = .hunt := by decide +kernel

/-- A frame clocked into port S bit by bit, a byte after it ignored; and one with a bad CRC. -/
theorem test_frame_pin_by_pin :
    after (.goodFrame .s (nopFrame ++ [1#8])) State.reset = transaction State.reset (0x3C#8 :: (nopFrame ++ [1#8]))
    ∧ (transaction State.reset (0x3C#8 :: nopFrame)).portS.order = [0]
    ∧ transaction State.reset (0x3C#8 :: nopFrame.set 7 0) = after (.frameDiscard .s (nopFrame.set 7 0)) State.reset := by decide +kernel

theorem witness_PortResetReachesOnePort :
    let s := (asked (ctx 0x10 7 0 []) State.reset).modPort .s fun p => p.setSlot 0 (.executing (ctx 0x10 7 0 []).req false)
    s.held = false ∧ (after (.portReset .s) s).portS.discard = [7] ∧ (after (.portReset .s) s).portS.order = []
    ∧ (after (.portReset .u) s).portS.order = [0] ∧ s.urxLow = false
    ∧ transaction s [0x99#8, 0#8] = { after (.portReset .s) s with misoOut := [0xFF#8, 0xFF#8] }
    ∧ (after (.portReset .u) { s with uTx := .sending 2 [7#8, 8#8] }).uTx = .stopping 7
    ∧ (after (.portReset .u) { s with uTx := .stopping 8 }).uTx = .stopping 8
    ∧ after (.portReset .u) { s with urxLow := true } = { s with urxLow := true } := by decide +kernel

/-- A port with an ANSWERED slot at its head. -/
def answeredPort (p : Port) : Port :=
  { p.setSlot 2 (.answered { seq := 5, code := 0x54, result := .ok, lapsed := false, duplicate := false, payload := [] }) with
    order := [2] }

theorem witness_ResponsesAreDelivered :
    let s := (State.reset.modPort .s answeredPort).modPort .u answeredPort
    (s.portS.headResponse.map fun x => (responseBytes x.2).length) = some 7
    ∧ (after (.readResponse 8) s).portS.order = [] ∧ (after (.readResponse 7) s).portS.order = [2]
    ∧ State.reset.portS.headResponse = none
    ∧ (after (.readResponse 2) State.reset).misoOut = [0xFF#8, 0#8, 0xFF#8]
    ∧ s.uTx = .idle ∧ (after .responseSendStart s).utx 0 = false
    ∧ (after .responseTransmitted (after .responseSendStart s)).portU.order = []
    ∧ (after .responseTransmitted { s with uTx := .stopping 7 }).portU.order = [2]
    ∧ ({ s with uTx := .sending 2 [7#8, 8#8] }.line .utxCharacter).uTx = .sending 2 [8#8] := by decide +kernel

/-- Reads of port S, pin by pin: whole, partial, and EMPTY. -/
theorem test_read_pin_by_pin :
    let s := State.reset.modPort .s answeredPort
    after (.readResponse 9) s = transaction s (0xC3#8 :: List.replicate 9 0x55#8)
    ∧ after (.readResponse 7) s = transaction s (0xC3#8 :: List.replicate 7 0x55#8)
    ∧ after (.readResponse 2) State.reset = transaction State.reset [0xC3#8, 0#8, 0#8]
    ∧ (lines s ([.csAssert] ++ pulses 0xC3#8)).miso = some true
    ∧ (lines s ([.csAssert] ++ pulses 0xC3#8 ++ [.sck true])).miso = some false := by decide +kernel

/-- A pause. -/
def pause10 : Fin 24 := ⟨10, by decide +kernel⟩

theorem witness_ArbiterIsRoundRobin :
    let two := (asked (ctx 0x54 255 0 []) State.reset).modPort .u fun p =>
      { p.setSlot 1 (.queued (ctx 0x53 255 0 []).req true) with order := [1] }
    two.choice.map Ctx.port = some .s ∧ { two with lastServed := .s }.choice.map Ctx.port = some .u
    ∧ { asked (ctx 0x54 255 0 []) State.reset with lastServed := .s }.choice.map Ctx.port = some .s := by decide +kernel

/-! ## The check order -/

/-- A whole DEFINE_LANE payload: address 7, FOLLOW of the given lane. -/
def definePayload (source parent : Byte) : List Byte :=
  [0x47#8, 0#8, 0#8, 0x13#8, 0x88#8, 0x01#8, 0xF4#8, 0#8, 200#8, 0x05#8, 0xDC#8, 0#8, source, 0x03#8, 0xE8#8, parent, 0x10#8, 0#8,
    0#8, 0#8, 0#8]

/-- An AMEND_LANE payload that names these fields, with address 7, period code 3, limits 0 and 6000, steps 600, 200 and 1500. -/
def amendPayload (mask : Nat) : List Byte :=
  u16Bytes mask ++ [0x67#8, 0#8, 0#8, 0x17#8, 0x70#8, 0x02#8, 0x58#8, 0#8, 200#8, 0x05#8, 0xDC#8, 0x05#8]

/-- A SET_SOURCE payload: kind, parent, ratio 4096, trim 0, basis OUTPUT. -/
def sourcePayload (kind parent : Byte) : List Byte := [kind, parent, 0x10#8, 0#8, 0#8, 0#8, 0#8]

theorem witness_CodeAndShapeAreChecked :
    codeTable.length = 28 ∧ (∀ x ∈ codeTable, x.1 ≠ 0x55#8)
    ∧ serves .unknownRequest (ctx 0x55 0 0 []) (asked (ctx 0x55 0 0 []) State.reset) = true
    ∧ result (after .unknownRequest (asked (ctx 0x55 0 0 []) State.reset)) = some .unknownRequest
    ∧ served .start 3 0 [] (one base) (some .badField) = true
    ∧ served .defineLane 3 0 ((definePayload 0 0).set 11 16) State.reset (some .badField) = true
    ∧ served .amendLane 3 0 (amendPayload 1024) (one base) (some .badField) = true
    ∧ served .setRatio 3 0 [0#8, 0#8, 0#8, 0#8, 2#8] (one base) (some .badField) = true
    ∧ served .setAttentionMask 255 0 [4#8, 0#8] State.reset (some .badField) = true
    ∧ served .ackAttention 255 0 [1#8] State.reset (some .badField) = true
    ∧ served .ackAttention 255 0 (List.replicate 18 0) State.reset (some .badField) = true := by decide +kernel

theorem witness_LaneFieldIsChecked :
    served .pinLane 24 0 [] State.reset (some .badLane) = true ∧ served .pinLane 255 0 [] State.reset (some .badLane) = true
    ∧ served .pinLane 23 0 [] State.reset (some .noLane) = true
    ∧ served .nop 254 0 [] State.reset (some .badLane) = true ∧ served .nop 255 0 [] State.reset (some .ok) = true := by
  decide +kernel

theorem witness_VacantAndBusyLanesAreRefused :
    served .hold 3 0 [] State.reset (some .noLane) = true ∧ served .readProfile 3 0 [0#8] State.reset (some .noLane) = true
    ∧ served .hold 3 0 [] (one (inMode (.defining mark))) (some .laneBusy) = true
    ∧ served .claim 3 8 [] (one (inMode (.tripped .drive 4 false (some mark)))) (some .laneBusy) = true
    ∧ served .defineLane 3 0 (definePayload 0 0) (one (inMode (.defining mark))) (some .laneBusy) = true := by decide +kernel

/-- Lane 3 owned by a port with key 77, and port S with these strikes. -/
def ownedBy (p : PortId) (strikes : Nat) : State :=
  (one { base with claim := some { port := p, key := 77 } }).modPort .s fun q => { q with strikes := strikes, barred := strikes == 5 }

theorem witness_KeyCheckRefuses :
    served .stop 3 77 [] (ownedBy .s 5) (some .barred) = true ∧ served .stop 3 77 [] (ownedBy .u 4) (some .owned) = true
    ∧ served .stop 3 78 [] (ownedBy .s 3) (some .key) = true ∧ served .stop 3 78 [] (ownedBy .s 4) (some .key) = true
    ∧ (after .stop (asked (ctx 0x21 3 78 []) (ownedBy .s 3))).portS.barred = false
    ∧ (after .stop (asked (ctx 0x21 3 78 []) (ownedBy .s 4))).portS.barred = true
    ∧ (after .stop (asked (ctx 0x21 3 77 []) (ownedBy .s 4))).portS.strikes = 0
    ∧ served .claim 3 1 [] ((one base).modPort .s fun q => { q with strikes := 5, barred := true }) (some .barred) = true := by
  decide +kernel

/-- A pause. -/
def pause4 : Fin 24 := ⟨4, by decide +kernel⟩

theorem witness_RefusedRequestChangesNothingElse :
    served .readProfile 3 0 [12#8] (one base) (some .badField) = true ∧ served .setPoint 3 0 [0x75#8, 0x31#8] (one base) (some .badField) = true := by
  decide +kernel

/-! ## The requests that change a lane -/

theorem witness_SetPointAndRatioWriteValues :
    trial .setPoint false 0 [0x75#8, 0x30#8] base State.reset (some .ok) = true
    ∧ trial .setPoint false 0 [0x75#8, 0x31#8] base State.reset (some .badField) = true
    ∧ trial .setPoint false 0 [0x8A#8, 0xD0#8] base State.reset (some .ok) = true
    ∧ trial .setPoint false 0 [0x8A#8, 0xCF#8] base State.reset (some .badField) = true
    ∧ trial .setRatio false 0 [0x3F#8, 0xFF#8, 0x0B#8, 0xB8#8, 0x81#8] base State.reset (some .badState) = true
    ∧ trial .setRatio false 0 [0x3F#8, 0xFF#8, 0x0B#8, 0xB8#8, 0x81#8] { base with source := .follow { parent := 1, ratio := 0, trim := 0, basis := .output } }
        State.reset (some .ok) = true
    ∧ trial .setRatio false 0 [0x40#8, 0#8, 0#8, 0#8, 0#8] { base with source := .follow { parent := 1, ratio := 0, trim := 0, basis := .output } }
        State.reset (some .badField) = true
    ∧ trial .setRatio false 0 [0#8, 0#8, 0x0B#8, 0xB9#8, 0#8] { base with source := .follow { parent := 1, ratio := 0, trim := 0, basis := .output } }
        State.reset (some .badField) = true := by decide +kernel

theorem witness_StartEntersActive :
    trial .start false 0 [0#8] (inMode (.stopping .halt)) State.reset (some .badState) = true
    ∧ trial .start false 0 [0#8] base { State.reset with haltLevel := true } (some .halted) = true
    ∧ trial .start false 0 [2#8] base State.reset (some .badField) = true
    ∧ trial .start false 0 [1#8] { base with view := none } State.reset (some .noDrive) = true
    ∧ trial .start false 0 [1#8] { base with view := some { state := .trip, atRef := false, tripCode := 1, feedback := 0 } } State.reset
        (some .driveFault) = true
    ∧ trial .start false 0 [0#8] { base with queue := [dwell] } State.reset (some .ok) = true
    ∧ trial .start false 0 [1#8] base State.reset (some .ok) = true
    ∧ trial .start false 0 [1#8] { base with queue := [dwell] } State.reset (some .ok) = true := by decide +kernel

theorem test_start_runs_profile :
    ((after .start (asked (ctx 0x20 3 0 [1#8]) (one { base with queue := [dwell] }))).lane 3).map Lane.mode
      = some (.active none (.running 0 (.count 5))) := by decide +kernel

theorem witness_StopHoldResume :
    trial .stop false 0 [] (loaded (some 5) .idle) State.reset (some .ok) = true
    ∧ trial .stop false 0 [] (inMode (.stopping .lapse)) State.reset (some .ok) = true
    ∧ trial .stop false 0 [] base State.reset (some .ok) = true
    ∧ trial .stop false 0 [] (inMode (.tripped .link 0 false none)) State.reset (some .badState) = true
    ∧ trial .hold false 0 [] (loaded none (.running 7 .notStarted)) State.reset (some .ok) = true
    ∧ trial .hold false 0 [] (loaded none .idle) State.reset (some .ok) = true
    ∧ trial .hold false 0 [] (loaded (some 5) .idle) State.reset (some .ok) = true
    ∧ trial .hold false 0 [] base State.reset (some .badState) = true
    ∧ trial .resume false 0 [] (loaded (some 5) .idle) State.reset (some .ok) = true
    ∧ trial .resume false 0 [] (loaded none .idle) State.reset (some .ok) = true
    ∧ trial .resume false 0 [] base State.reset (some .badState) = true := by decide +kernel

theorem test_hold_takes_the_output :
    ((after .hold (asked (ctx 0x22 3 0 []) (one (loaded none (.running 7 .notStarted))))).lane 3).map Lane.mode
      = some (.active (some 800) (.paused 7 .notStarted)) := by decide +kernel

/-- A follower of lane 3. -/
def followOf3 : Lane := { base with source := .follow { parent := 3, ratio := 4096, trim := 0, basis := .output }, cfg := { base.cfg with address := 8 } }

/-- A chain under lane 10: 11 follows 10, and so on, this many links. -/
def chain : Nat → State → State
  | 0, s => s.putLane 10 (some { base with cfg := { base.cfg with address := 10 } })
  | n + 1, s =>
    (chain n s).putLane (Fin.ofNat 24 (11 + n)) (some { base with
      cfg := { base.cfg with address := 11 + n }
      source := .follow { parent := Fin.ofNat 24 (10 + n), ratio := 4096, trim := 0, basis := .output } })

theorem witness_SetSourceSwitchesSource :
    trial .setSource false 0 (sourcePayload 0 0) (inMode (.tripped .cascade 0 false none)) State.reset (some .badState) = true
    ∧ trial .setSource false 0 (sourcePayload 0 0) { loaded none .idle with source := .follow { parent := 1, ratio := 1, trim := 1, basis := .output } }
        State.reset (some .ok) = true
    ∧ trial .setSource false 0 (sourcePayload 0 0) base State.reset (some .ok) = true
    ∧ trial .setSource false 0 (sourcePayload 2 0) base State.reset (some .badField) = true
    ∧ trial .setSource false 0 [1#8, 5#8, 0x40#8, 0#8, 0#8, 0#8, 0#8] base State.reset (some .badField) = true
    ∧ trial .setSource false 0 (sourcePayload 1 24) base State.reset (some .badField) = true
    ∧ trial .setSource false 0 ((sourcePayload 1 5).set 6 2) base (State.reset.putLane 5 (some followOf3)) (some .badField) = true
    ∧ trial .setSource false 0 (sourcePayload 1 3) base State.reset (some .cycle) = true
    ∧ trial .setSource false 0 (sourcePayload 1 5) base (State.reset.putLane 5 (some followOf3)) (some .cycle) = true
    ∧ trial .setSource false 0 (sourcePayload 1 5) base State.reset (some .noLane) = true
    ∧ trial .setSource false 0 (sourcePayload 1 5) base (State.reset.putLane 5 (some (inMode (.defining mark)))) (some .badState) = true
    ∧ trial .setSource false 0 (sourcePayload 1 14) base (chain 4 State.reset) (some .depth) = true
    ∧ trial .setSource false 0 (sourcePayload 1 13) base ((chain 4 State.reset).putLane 5 (some followOf3)) (some .depth) = true
    ∧ trial .setSource false 0 (sourcePayload 1 13) (loaded none .idle) (chain 4 State.reset) (some .ok) = true
    ∧ trial .setSource false 0 (sourcePayload 1 13) base (chain 4 State.reset) (some .ok) = true := by decide +kernel

/-- An APPEND_SEGMENT payload: a DWELL of 5. -/
def dwellPayload : List Byte := [1#8, 0#8, 0#8, 0#8, 0#8, 0#8, 0#8, 0#8, 5#8, 1#8, 9#8]

theorem witness_AppendTakesPoolSlot :
    trial .appendSegment false 0 dwellPayload (inMode (.stopping .command)) State.reset (some .badState) = true
    ∧ trial .appendSegment false 0 (dwellPayload.set 8 0) base State.reset (some .badField) = true
    ∧ trial .appendSegment false 0 (dwellPayload.set 0 2) base State.reset (some .badField) = true
    ∧ trial .appendSegment false 0 (dwellPayload.set 9 2) base State.reset (some .badField) = true
    ∧ trial .appendSegment false 0 dwellPayload { base with queue := List.replicate 12 dwell } State.reset (some .queueFull) = true
    ∧ trial .appendSegment false 0 dwellPayload base { State.reset with poolFree := 0 } (some .poolFull) = true
    ∧ trial .appendSegment false 0 dwellPayload { base with queue := List.replicate 11 dwell } { State.reset with poolFree := 12 } (some .ok) = true
    ∧ trial .appendSegment false 0 dwellPayload (loaded none .idle) State.reset (some .ok) = true := by decide +kernel

/-- A pause. -/
def pause5 : Fin 24 := ⟨5, by decide +kernel⟩

theorem witness_ProfileRunRequests :
    trial .runProfile false 0 [] (inMode (.active none .idle)) State.reset (some .badState) = true
    ∧ trial .runProfile false 0 [] (loaded (some 3) .idle) State.reset (some .badState) = true
    ∧ trial .runProfile false 0 [] (loaded none .idle) State.reset (some .ok) = true
    ∧ trial .runProfile false 0 [] (loaded none (.paused 7 (.count 2))) State.reset (some .ok) = true
    ∧ trial .runProfile false 0 [] (loaded none (.running 7 (.count 2))) State.reset (some .ok) = true
    ∧ trial .pauseProfile false 0 [] (loaded none (.running 7 (.count 2))) State.reset (some .ok) = true
    ∧ trial .pauseProfile false 0 [] (loaded (some 3) (.paused 7 (.count 2))) State.reset (some .ok) = true
    ∧ trial .pauseProfile false 0 [] (loaded none .idle) State.reset (some .badState) = true
    ∧ trial .flushProfile false 0 [] (loaded (some 3) (.paused 7 (.count 2))) State.reset (some .ok) = true
    ∧ trial .flushProfile false 0 [] (loaded none .idle) State.reset (some .ok) = true := by decide +kernel

theorem witness_PinClaimRelease :
    trial .pinLane false 0 [] base State.reset (some .ok) = true ∧ trial .claim true 1 [] base State.reset (some .ok) = true
    ∧ trial .claim true 0 [] base State.reset (some .badField) = true
    ∧ trial .claim true 77 [] { base with claim := some { port := .s, key := 77 } } State.reset (some .ok) = true
    ∧ trial .release false 77 [] { base with claim := some { port := .s, key := 77 } } State.reset (some .ok) = true
    ∧ trial .release false 0 [] base State.reset (some .ok) = true := by decide +kernel

theorem witness_AmendWritesNamedFields :
    trial .amendLane false 0 (amendPayload 0) base State.reset (some .ok) = true
    ∧ trial .amendLane false 0 (amendPayload 1) (loaded none .idle) State.reset (some .badState) = true
    ∧ trial .amendLane false 0 (amendPayload 1) { base with pinned := true } State.reset (some .pinned) = true
    ∧ trial .amendLane false 0 (amendPayload 0x200) { base with pinned := true } State.reset (some .pinned) = true
    ∧ trial .amendLane false 0 (amendPayload 0x80) { base with pinned := true } State.reset (some .ok) = true
    ∧ trial .amendLane false 0 ((amendPayload 0x100).set 13 12) base State.reset (some .badField) = true
    ∧ trial .amendLane false 0 ((amendPayload 2).set 2 0xC7) base State.reset (some .badField) = true
    ∧ trial .amendLane false 0 ((amendPayload 0x10).set 7 0 |>.set 8 199) base State.reset (some .badField) = true
    ∧ trial .amendLane false 0 (amendPayload 1) base (State.reset.putLane 5 (some { base with cfg := { base.cfg with address := 7 } }))
        (some .addressTaken) = true
    ∧ trial .amendLane false 0 (amendPayload 0x3FF) base State.reset (some .ok) = true := by decide +kernel

theorem test_amend_drops_the_view :
    let t := after .amendLane (asked (ctx 0x11 3 0 (amendPayload 3)) { one base with
      link := .awaiting { lane := 3, kind := .ref, address := 3, stale := false } false })
    (t.lane 3).map (fun l => (l.cfg.address, l.view, l.timer)) = some (7, none, some 8)
    ∧ t.link = .awaiting { lane := 3, kind := .ref, address := 3, stale := true } false := by decide +kernel

theorem witness_RetireMakesVacant :
    trial .retireLane false 0 [] (loaded none .idle) State.reset (some .badState) = true
    ∧ trial .retireLane false 0 [] { base with pinned := true } State.reset (some .pinned) = true
    ∧ trial .retireLane false 0 [] base (State.reset.putLane 5 (some followOf3)) (some .hasFollowers) = true
    ∧ trial .retireLane false 0 [] { base with queue := [dwell] } State.reset (some .ok) = true := by decide +kernel

theorem witness_DefineMakesDefining :
    served .defineLane 3 0 (definePayload 0 0) (one base) (some .badState) = true
    ∧ served .defineLane 3 0 ((definePayload 0 0).set 0 0x40) State.reset (some .badField) = true
    ∧ served .defineLane 3 0 ((definePayload 0 0).set 11 12) State.reset (some .badField) = true
    ∧ served .defineLane 3 0 (definePayload 0 0) (State.reset.putLane 5 (some { base with cfg := { base.cfg with address := 7 } })) (some .addressTaken) = true
    ∧ served .defineLane 3 0 (definePayload 1 3) State.reset (some .cycle) = true
    ∧ served .defineLane 3 0 (definePayload 1 5) State.reset (some .noLane) = true
    ∧ served .defineLane 3 0 (definePayload 1 5) (State.reset.putLane 5 (some (inMode (.defining mark)))) (some .badState) = true
    ∧ served .defineLane 3 0 (definePayload 1 14) (chain 4 State.reset) (some .depth) = true
    ∧ served .defineLane 3 0 (definePayload 1 13) (chain 4 State.reset) none = true
    ∧ waiting (after .defineLane (asked (ctx 0x10 3 0 (definePayload 0 0)) State.reset)) = true
    ∧ (after .defineLane (asked (ctx 0x10 3 0 (definePayload 0 0)) State.reset)).frames = [{ lane := 3, kind := .ident 1 }] := by
  decide +kernel

theorem witness_ClearTripTakesItsPath :
    trial .clearTrip false 0 [] base State.reset (some .badState) = true
    ∧ trial .clearTrip false 0 [] (inMode (.tripped .cascade 0 false none)) State.reset (some .badState) = true
    ∧ trial .clearTrip false 0 [] (inMode (.tripped .link 0 false none)) State.reset (some .noDrive) = true
    ∧ trial .clearTrip false 0 [] (inMode (.tripped .drive 4 false none)) State.reset none = true
    ∧ trial .clearTrip false 0 [] (inMode (.tripped .drive 4 true none)) State.reset (some .ok) = true
    ∧ trial .clearTrip false 0 [] (inMode (.tripped .cascade 0 true none)) State.reset (some .ok) = true := by decide +kernel

/-! ## The requests that name no lane, and the reads -/

theorem witness_ReadsChangeNothing :
    served .nop 255 0 [] State.reset (some .ok) = true ∧ served .readDevice 255 0 [] State.reset (some .ok) = true
    ∧ served .listLanes 255 0 [] (one base) (some .ok) = true ∧ served .readAttention 255 0 [] State.reset (some .ok) = true
    ∧ served .findDrive 255 0 [0#8] (one base) (some .badField) = true ∧ served .findDrive 255 0 [32#8] (one base) (some .badField) = true
    ∧ served .findDrive 255 0 [31#8] (one base) (some .noLane) = true ∧ served .findDrive 255 0 [3#8] (one base) (some .ok) = true := by
  decide +kernel

/-- A pause. -/
def pause6 : Fin 24 := ⟨6, by decide +kernel⟩

theorem witness_ReadLaneReportsRecord :
    served .readLane 3 0 [] State.reset (some .ok) = true ∧ served .readLane 3 0 [] (one base) (some .ok) = true
    ∧ ((one base).viewOf 3).length = 32 ∧ (State.reset.viewOf 3).length = 32
    ∧ ((one base).viewOf 3).take 3 = [0x02#8, 0x43#8, 4#8]
    ∧ byteAt ((one (inMode (.tripped .cascade 0 true none))).viewOf 3) 25 = 0x1C#8
    ∧ byteAt ((one (inMode (.tripped .drive 9 false (some mark)))).viewOf 3) 25 = 0xC4#8
    ∧ byteAt ((one (inMode (.defining mark))).viewOf 3) 25 = 0xA0#8
    ∧ byteAt ((one (inMode (.stopping .lapse))).viewOf 3) 25 = 3#8
    ∧ byteAt ((one { base with claim := some { port := .u, key := 7 }, misses := 2 }).viewOf 3) 13 = 0xB6#8 := by decide +kernel

theorem witness_ReadProfileReportsQueue :
    served .readProfile 3 0 [11#8] (one (loaded none .idle)) (some .ok) = true
    ∧ served .readProfile 3 0 [12#8] (one (loaded none .idle)) (some .badField) = true
    ∧ profileView (loaded none (.running 800 (.count 5))) 63 0
        = [0x0D#8, 63#8, 0#8, 5#8, 3#8, 0x20#8, 0#8, 0#8, 0#8, 5#8, 0x80#8, 0#8, 9#8, 0#8]
    ∧ profileView { base with queue := [dwell, { body := .ramp (-1) 2 0xABC, notify := false, tag := 8 }] } 63 1
        = [0x14#8, 63#8, 0#8, 0#8, 0#8, 0#8, 0#8, 0x0A#8, 0xFF#8, 0xFF#8, 0#8, 2#8, 8#8, 0xBC#8] := by decide +kernel

/-- State.reset with port S in this lease. -/
def leased (l : Lease) : State := State.reset.modPort .s fun p => { p with lease := l }

theorem witness_SetLeaseActsOnOwnPort :
    served .setLease 255 0 [] State.reset (some .badField) = true ∧ served .setLease 254 0 [1#8] State.reset (some .badLane) = true
    ∧ served .setLease 255 0 [1#8] State.reset (some .ok) = true ∧ served .setLease 255 0 [255#8] State.reset (some .ok) = true
    ∧ served .setLease 255 0 [0#8] (leased { period := 4, lapsed := false, timer := some 3 }) (some .ok) = true
    ∧ served .setLease 255 0 [2#8] (leased { period := 4, lapsed := true, timer := none }) (some .ok) = true
    ∧ (after .setLease (asked (ctx 0x42 255 0 [2#8]) (leased { period := 4, lapsed := false, timer := some 3 }))).portS.lease.timer = some 20
    ∧ (after .setLease (asked (ctx 0x42 255 0 [2#8]) (leased { period := 4, lapsed := true, timer := none }))).portS.lease.timer = none := by
  decide +kernel

/-- Port S with three entries: SEGMENT_DONE and LOCKED of lane 3, and LAPSED. -/
def marked : State :=
  (((State.reset.report 3 (.segmentDone 5)).report 3 .locked)).modPort .s Port.takeLapsed

theorem witness_MaskAndAckRemoveEntries :
    u16At [3#8, 0xFF#8] 0 = (1023#10).toNat
    ∧ served .setAttentionMask 255 0 [3#8, 0xFF#8] marked (some .ok) = true ∧ served .setAttentionMask 255 0 [0#8, 0#8] marked (some .ok) = true
    ∧ (after .setAttentionMask (asked (ctx 0x50 255 0 [2#8, 1#8]) marked)).portS.attn.count = 1
    ∧ served .ackAttention 255 0 [3#8, 10#8] marked (some .badField) = true ∧ served .ackAttention 255 0 [24#8, 0#8] marked (some .badField) = true
    ∧ served .ackAttention 255 0 [3#8, 8#8] marked (some .badField) = true
    ∧ served .ackAttention 255 0 [3#8, 2#8, 255#8, 8#8] marked (some .ok) = true
    ∧ (after .ackAttention (asked (ctx 0x52 255 0 [3#8, 2#8, 255#8, 8#8]) marked)).portS.attn.entries = [[3#8, 0#8, 5#8]] := by
  decide +kernel

/-- Every lane kind of lane 3 in port S's set, and the acknowledgment of three of them. -/
theorem test_ack_of_each_kind :
    let all := [LaneReport.segmentDone 5, .profileEmpty, .locked, .stopped, .tripped .link 0, .resumed, .linkLost, .claimDropped].foldl
      (fun s r => s.report 3 r) State.reset
    all.portS.attn.entries.length = 8 ∧ all.portS.attn.entries = setEntries all.portS.attn ∧ all.portS.attnAsserted = true
    ∧ (after .ackAttention (asked (ctx 0x52 255 0 [3#8, 1#8, 3#8, 3#8, 3#8, 5#8, 3#8, 6#8, 3#8, 7#8]) all)).portS.attn.entries
        = [[3#8, 0#8, 5#8], [3#8, 2#8, 0#8], [3#8, 0x44#8, 0#8]] := by decide +kernel

/-! ## Updates and lease expiry -/

theorem witness_FollowValueIsFourSteps :
    (one followOf3).lane 3 = some followOf3 ∧ followOf3.source = .follow { parent := 3, ratio := 4096, trim := 0, basis := .output }
    ∧ followOf3.view.isSome = true := by decide +kernel

/-- An ACTIVE update, as lane 4 of the chapter 2 example: output 5900, demand 6450, high limit 6000, blend step 150. -/
def movingLane : Lane :=
  { inMode (.active none .idle) with
    cfg := { base.cfg with lowLimit := -2000, highLimit := 6000, slewStep := 600, blendStep := 150 }, output := 5900, setPoint := 6450 }

theorem witness_ActiveUpdateIsFiveStages :
    (one movingLane).lane 3 = some movingLane ∧ movingLane.timer = some 4
    ∧ advanceHead .idle movingLane.queue movingLane.track = { run := .idle, queue := [], track := .blending, reports := [] }
    ∧ (6000 : Int) = max (-2000) (min 6000 ((one movingLane).baseDemand movingLane))
    ∧ ((after (.laneUpdate 3) (one movingLane)).lane 3).map (fun l => (l.output, l.track)) = some (6000, .locked)
    ∧ ((after (.laneUpdate 3) (one { movingLane with output := 5849 })).lane 3).map (fun l => (l.output, l.track)) = some (5999, .blending)
    ∧ ((after (.laneUpdate 3) (one { movingLane with output := 6700, track := .locked })).lane 3).map (fun l => (l.output, l.track))
        = some (6100, .locked)
    ∧ ((after (.laneUpdate 3) (one (loaded (some 900) (.running 7 (.count 1))))).lane 3).map (fun l => (l.output, l.queue)) = some (900, [])
    ∧ ((after (.laneUpdate 3) (one (loaded none (.paused 700 (.count 1))))).lane 3).map (fun l => (l.output, l.queue)) = some (700, [dwell]) := by
  decide +kernel

theorem witness_HeadAdvancesAndCompletes :
    (advanceHead (.running 2800 (.rate 600)) [{ body := .ramp 3000 600 200, notify := true, tag := 5 }, dwell] .locked).reports
        = [.segmentDone 5]
    ∧ (advanceHead (.running 1000 .notStarted) [{ body := .ramp 3000 600 200, notify := true, tag := 5 }] .locked).run
        = .running 1200 (.rate 400)
    ∧ (advanceHead (.running 3000 (.count 1)) [dwell] .locked).reports = [.segmentDone 9, .profileEmpty]
    ∧ (advanceHead (.running 3000 (.count 2)) [dwell] .locked).run = .running 3000 (.count 1)
    ∧ (advanceHead (.paused 3000 (.count 1)) [dwell] .locked).queue = [dwell] := by decide +kernel

theorem witness_ReportMakesOrRefreshesEntry :
    Port.reset.mask.getLsbD 4 = true ∧ (Port.reset.takeLane 3 (.tripped .drive 9)).attnAsserted = true ∧ Port.reset.attnAsserted = false
    ∧ holdsKind (Port.reset.takeLane 3 (.tripped .drive 9)).attn.lanes[(3 : LaneId)] (.tripped .link 0) = true
    ∧ { Port.reset with mask := 0#10 }.takeLane 3 .locked = { Port.reset with mask := 0#10 }
    ∧ { Port.reset with mask := 0#10 }.takeLapsed.attnAsserted = false := by decide +kernel

theorem witness_StoppingAndRestUpdates :
    (one { inMode (.stopping .command) with output := 1500 }).held = false
    ∧ ((after (.laneUpdate 3) (one { inMode (.stopping .command) with output := 1500 })).lane 3).map Lane.mode = some .standby
    ∧ ((after (.laneUpdate 3) (one { inMode (.stopping .command) with output := -1501 })).lane 3).map Lane.output = some (-1)
    ∧ (after (.laneUpdate 3) (one base)).frames = [{ lane := 3, kind := .ref }] := by decide +kernel

/-- A pause. -/
def pause7 : Fin 24 := ⟨7, by decide +kernel⟩

theorem witness_LeaseExpiryAppliesFallbacks :
    let s (l : Lane) := ((one { l with claim := some { port := .s, key := 77 } }).putLane 5 (some followOf3)).modPort .s fun p =>
      { p with lease := { period := 2, lapsed := false, timer := some 1 } }
    ((s base).port .s).lease.timer = some 1
    ∧ ((after (.leaseExpiry .s) (s (loaded none .idle))).lane 3).map Lane.mode = some (.stopping .lapse)
    ∧ ((after (.leaseExpiry .s) (s { loaded none (.running 7 .notStarted) with cfg := { base.cfg with fallback := .hold } })).lane 3).map Lane.mode
        = some (.active (some 800) (.paused 7 .notStarted))
    ∧ ((after (.leaseExpiry .s) (s { base with cfg := { base.cfg with fallback := .release } })).lane 3).map Lane.claim = some none
    ∧ (after (.leaseExpiry .s) (s { base with cfg := { base.cfg with fallback := .release } })).portS.attn.entries
        = [[255#8, 8#8, 0#8], [3#8, 7#8, 0#8]] := by decide +kernel

/-! ## The drive link -/

/-- A transaction of lane 3 in flight, its window open. -/
def flying (kind : FrameKind) (stale begun : Bool) (l : Lane) : State :=
  { one l with link := .awaiting { lane := 3, kind := kind, address := 3, stale := stale } begun }

/-- A status reply of the drive at address 3. -/
def status (state code : Byte) : List Byte := linkChars 3 0x70 [state, 1#8, code, 0#8, 7#8]

/-- An IDENT reply of a drive of type 4 at address 3. -/
def identReply : List Byte := linkChars 3 0x71 [0#8, 0#8, 0#8, 0#8, 0#8, 4#8]

/-- The mode of lane 3. -/
def modeOf (t : State) : Option Mode := (t.lane 3).map Lane.mode

theorem witness_TransactionsStart :
    (after .transactionStart { one { loaded none .idle with output := -2 } with frames := [{ lane := 3, kind := .ref }] }).link
        = .sending { lane := 3, kind := .ref, address := 3, stale := false } (linkChars 3 0x61 [0xFF#8, 0xFE#8])
    ∧ (after .transactionStart { one base with frames := [{ lane := 3, kind := .ref }] }).link
        = .sending { lane := 3, kind := .ref, address := 3, stale := false } (linkChars 3 0x60 [0#8, 0#8])
    ∧ (after .guardEnd { one base with frames := [{ lane := 3, kind := .clear }], link := .guarding }).link
        = .sending { lane := 3, kind := .clear, address := 3, stale := false } (linkChars 3 0x63 [])
    ∧ (after .guardEnd { one base with link := .guarding }).link = .idle
    ∧ (after .linkFrameSent { one base with link := .sending { lane := 3, kind := .ident 1, address := 3, stale := false } [] }).link
        = .awaiting { lane := 3, kind := .ident 1, address := 3, stale := false } false
    ∧ (after .replyBegun (flying .ref false false base)).link = .awaiting { lane := 3, kind := .ref, address := 3, stale := false } true := by
  decide +kernel

/-- The levels of DLTX over the second character of a frame, 0x63, and after the frame. -/
theorem test_dltx_levels :
    let s := { one base with link := .sending { lane := 3, kind := .clear, address := 3, stale := false } [3#8, 0x63#8] }
    s.dlde = true ∧ (List.range 11).map (fun n => s.dltx (10 + n)) = [false, true, true, false, false, false, true, true, false, true, true]
    ∧ { s with link := .guarding }.dlde = false ∧ { s with link := .guarding }.dltx 10 = true := by decide +kernel

theorem witness_StaleTransactionReachesNothing :
    (after (.driveReply (status 2 5)) (flying .ref true true (loaded none .idle))).lane 3 = some (loaded none .idle)
    ∧ (after .replyWindowTimeout (flying .ref true false base)).lane 3 = some base
    ∧ (after .replyBroken (flying .ref true true base)).link = .guarding := by decide +kernel

theorem witness_ReadyReplyUpdatesAndResolves :
    (validReply { lane := 3, kind := .ref, address := 3, stale := false } (status 1 0)).map (fun r => r.view.state) = some .run
    ∧ ((after (.driveReply (status 1 0)) (flying .ref false true { base with misses := 2 })).lane 3).map Lane.misses = some 0
    ∧ modeOf (after (.driveReply (status 0 0)) (flying .ref false true (inMode (.tripped .link 0 false none)))) = some (.tripped .link 0 true none)
    ∧ modeOf (after (.driveReply (status 0 0)) (flying .ref false true { inMode (.tripped .drive 9 false none) with cfg := { base.cfg with autoResume := true } }))
        = some (.active none .idle)
    ∧ modeOf (after (.driveReply (status 0 0)) { flying .ref false true { inMode (.tripped .drive 9 false none) with cfg := { base.cfg with autoResume := true } } with haltLevel := true })
        = some .standby
    ∧ modeOf (after (.driveReply (status 2 9)) (flying .ref false true (inMode (.tripped .drive 7 false none)))) = some (.tripped .drive 7 false none)
    ∧ modeOf (after (.driveReply (status 2 9)) (flying .ref false true base)) = some .standby := by decide +kernel

/-- A lane whose pending CLEAR waits in slot 2 of port U, with auto resume or without, while a REF frame is in flight. -/
def overtaken (auto : Bool) : State :=
  { (flying .ref false true { inMode (.tripped .drive 9 false (some mark)) with cfg := { base.cfg with autoResume := auto } }) with
    frames := [{ lane := 3, kind := .clear }, { lane := 7, kind := .ref }]
    portU := { Port.reset.setSlot 2 (.executing (ctx 0x27 3 0 []).req false) with order := [2] } }

theorem test_overtaken_clear_is_answered :
    (after (.driveReply (status 0 0)) (overtaken true)).frames = [{ lane := 7, kind := .ref }]
    ∧ modeOf (after (.driveReply (status 0 0)) (overtaken true)) = some (.active none .idle)
    ∧ (after (.driveReply (status 0 0)) (overtaken true)).portU.slots[2]
        = .answered { seq := 5, code := 0x27, result := .ok, lapsed := false, duplicate := false, payload := [] }
    ∧ modeOf (after (.driveReply (status 0 0)) { overtaken true with haltLevel := true }) = some .standby
    ∧ modeOf (after (.driveReply (status 0 0)) (overtaken false)) = some (.tripped .drive 9 true (some mark))
    ∧ (after (.driveReply (status 0 0)) (overtaken false)).frames = (overtaken false).frames := by decide +kernel

theorem witness_TripReplyActsByLaneState :
    (validReply { lane := 3, kind := .ref, address := 3, stale := false } (status 2 63)).map (fun r => r.view.tripCode) = some 63
    ∧ validReply { lane := 3, kind := .ref, address := 3, stale := false } (status 2 64) = none
    ∧ validReply { lane := 3, kind := .ref, address := 3, stale := false } (status 2 0) = none
    ∧ modeOf (after (.driveReply (status 2 63)) (flying .ref false true (loaded none .idle))) = some (.tripped .drive 63 false none)
    ∧ modeOf (after (.driveReply (status 2 1)) (flying .ref false true (inMode (.tripped .link 0 false none)))) = some (.tripped .drive 1 false none)
    ∧ modeOf (after (.driveReply (status 2 1)) (flying .ref false true (inMode (.tripped .drive 9 true (some mark)))))
        = some (.tripped .drive 1 false (some mark)) := by decide +kernel

/-- Lane 5 follows lane 3, and lane 6 follows lane 5. -/
def family (m : Mode) : State :=
  ((flying .ref false true (loaded none .idle)).putLane 5 (some { followOf3 with mode := m })).putLane 6 (some
    { base with
      mode := .active none .idle, output := 70, cfg := { base.cfg with address := 9 }
      source := .follow { parent := 5, ratio := 4096, trim := 0, basis := .output } })

theorem witness_TripCascadesDownCoupledLinks :
    ((family (.stopping .command)).depth 6 = 2 ∧ (family (.stopping .command)).depth 5 = 1)
    ∧ ((after (.driveReply (status 2 9)) (family (.stopping .command))).lane 6).map Lane.mode = some (.tripped .cascade 0 false none)
    ∧ ((after (.driveReply (status 2 9)) (family .standby)).lane 6).map Lane.mode = some (.active none .idle)
    ∧ ((after (.driveReply (status 2 9)) (family (.tripped .cascade 0 true none))).lane 5).map Lane.mode = some (.tripped .cascade 0 false none)
    ∧ (after (.driveReply (status 2 9)) (family (.stopping .command))).frames
        = [{ lane := 3, kind := .ref }, { lane := 5, kind := .ref }, { lane := 6, kind := .ref }]
    ∧ (((after .replyBroken ((family (.stopping .command)).putLane 3 (some { loaded none .idle with misses := 2 }))).lane 6).map Lane.mode
        = some (.tripped .cascade 0 false none)) := by decide +kernel

/-- Lane 3 in this mode, a transaction of it in flight; lane 5 follows it, tripped by it; lane 6 follows lane 5, tripped by it too. -/
def fallen (kind : FrameKind) (m : Mode) (auto5 : Bool) : State :=
  let auto : LaneCfg := { base.cfg with autoResume := true }
  ((flying kind false true { inMode m with cfg := auto }).putLane 5 (some
    { followOf3 with mode := .tripped .cascade 0 false none, cfg := { followOf3.cfg with autoResume := auto5 } })).putLane 6 (some
    { base with
      mode := .tripped .cascade 0 false none, cfg := { auto with address := 9 }
      source := .follow { parent := 5, ratio := 4096, trim := 0, basis := .output } })

/-- The modes of lanes 5 and 6. -/
def belowModes (t : State) : Option Mode × Option Mode := ((t.lane 5).map Lane.mode, (t.lane 6).map Lane.mode)

theorem witness_ResolutionCascadesDownChains :
    belowModes (after (.driveReply (status 0 0)) (fallen .ref (.tripped .drive 9 false none) true))
        = (some (.active none .idle), some (.active none .idle))
    ∧ belowModes (after (.driveReply (status 0 0)) { fallen .ref (.tripped .drive 9 false none) true with haltLevel := true })
        = (some .standby, some .standby)
    ∧ belowModes (after (.driveReply (status 0 0)) (fallen .ref (.tripped .drive 9 false none) false))
        = (some (.tripped .cascade 0 true none), some (.tripped .cascade 0 false none))
    ∧ belowModes (after (.driveReply (status 0 0)) (fallen .clear (.tripped .drive 9 false (some mark)) true)) = (some .standby, some .standby)
    ∧ (let s := asked (ctx 0x27 3 0 []) (fallen .ref (.tripped .drive 9 true none) true)
      serves .clearTrip (ctx 0x27 3 0 []) s = true ∧ belowModes (after .clearTrip s) = (some .standby, some .standby)) := by
  decide +kernel

/-- A pause. -/
def pause11 : Fin 24 := ⟨11, by decide +kernel⟩

theorem witness_IdentOutcomes :
    modeOf (after (.driveReply identReply) (flying (.ident 1) false true (inMode (.defining mark)))) = some .standby
    ∧ (after .replyBroken (flying (.ident 2) false true (inMode (.defining mark)))).frames = [{ lane := 3, kind := .ident 3 }]
    ∧ modeOf (after .replyWindowTimeout (flying (.ident 3) false false (inMode (.defining mark)))) = none
    ∧ modeOf (after (.driveReply (status 0 0)) (flying (.ident 3) false true (inMode (.defining mark)))) = none := by decide +kernel

theorem witness_MissesLeadToLinkLoss :
    ((after .replyWindowTimeout (flying .ref false false { base with misses := 1 })).lane 3).map Lane.misses = some 2
    ∧ ((after .replyBroken (flying .ref false true { base with misses := 2 })).lane 3).map (fun l => (l.misses, l.view)) = some (3, none)
    ∧ (after .replyBroken (flying .ref false true { base with misses := 3 })).lane 3 = some { base with misses := 3 }
    ∧ modeOf (after (.driveReply []) (flying .ref false true { loaded none .idle with misses := 2 })) = some (.tripped .link 0 false none)
    ∧ modeOf (after .replyBroken (flying .ref false true { inMode (.tripped .drive 9 false (some mark)) with misses := 2 }))
        = some (.tripped .link 0 false (some mark)) := by decide +kernel

/-- A pause. -/
def pause8 : Fin 24 := ⟨8, by decide +kernel⟩

theorem witness_ClearTransactionEnds :
    let s (misses : Nat) := flying .clear false true { inMode (.tripped .drive 9 false (some mark)) with misses := misses }
    modeOf (after (.driveReply (status 0 0)) (s 0)) = some .standby
    ∧ modeOf (after (.driveReply (status 2 8)) (s 0)) = some (.tripped .drive 9 false none)
    ∧ modeOf (after .replyBroken (s 1)) = some (.tripped .drive 9 false none)
    ∧ modeOf (after .replyBroken (s 2)) = some (.tripped .link 0 false none)
    ∧ modeOf (after .replyBroken (s 3)) = some (.tripped .drive 9 false none)
    ∧ modeOf (after (.driveReply (status 2 8)) (flying .clear false true (inMode (.tripped .link 0 false (some mark)))))
        = some (.tripped .drive 8 false none)
    ∧ modeOf (after (.driveReply (status 2 8)) (flying .clear false true (inMode (.tripped .drive 9 true (some mark)))))
        = some (.tripped .drive 8 false none) := by decide +kernel

theorem witness_DriveReplyRoundTrip :
    (validReply { lane := 0, kind := .ident 1, address := 31, stale := false }
      (linkChars 31 0x71 ([byteOf DriveState.trip.code, 0xFF#8, byteOf 63] ++ s16Bytes (-30000) ++ [4#8])))
      = some { view := { state := .trip, atRef := true, tripCode := 63, feedback := -30000 }, driveType := 4 } := by decide +kernel

/-- A reply short by its CRC, with another CRC, echo or form, with an unknown drive state, or with a feedback out of range is not valid. -/
theorem test_replies_that_are_not_valid :
    let x : Txn := { lane := 3, kind := .ref, address := 3, stale := false }
    (validReply x (status 0 0)).isSome = true ∧ validReply x ((status 0 0).take 7) = none ∧ validReply x ((status 0 0).set 7 0) = none
    ∧ validReply { x with address := 4 } (status 0 0) = none ∧ validReply { x with kind := .ident 1 } (status 0 0) = none
    ∧ validReply x (status 3 0) = none ∧ validReply x (status 1 1) = none
    ∧ validReply x (linkChars 3 0x70 [0#8, 0#8, 0#8, 0x75#8, 0x31#8]) = none := by decide +kernel

/-- MISO while RESET_N is held with CS_N asserted (log 20). -/
theorem test_miso_while_held : { inTransaction with held := true, spi := .selected .ignoring [] }.miso = some true := by decide +kernel

/-! ## The laws -/

theorem lane_reset (i : LaneId) : State.reset.lane i = none := by revert i; decide +kernel

theorem lane_one (l : Lane) (i : LaneId) : (one l).lane i = if i = 3 then some l else none := by
  unfold one
  rw [State.lane_putLane]
  split
  · rfl
  · exact lane_reset i

theorem laneOk_base : LaneOk base where
  cfg := by decide +kernel
  setPoint := by unfold inRange; decide
  output := by unfold inRange; decide
  link := by intro k h; cases h
  queue := ⟨by decide, by intro g h; cases h⟩
  key := by intro cl h; cases h
  misses := by decide
  view := by
    rintro v hv
    cases hv
    refine ⟨?_, ?_, ?_⟩
    · unfold inRange; decide
    · decide
    · constructor
      · intro h; cases h
      · intro h; exact absurd h (by decide)
  mode := ⟨rfl, rfl, rfl, rfl⟩

theorem laneLaw_of {s : State} {l : Lane} (h : ∀ i, s.lane i = if i = 3 then some l else none) (hl : LaneOk l) : LaneLaw s := by
  intro i m hi
  rw [h] at hi
  split at hi
  · cases hi; exact hl
  · cases hi

/-- A TRIPPED lane with a pending CLEAR keeps its own law. -/
theorem laneOk_clearing : LaneOk (inMode (.tripped .drive 9 false (some mark))) :=
  { cfg := laneOk_base.cfg, setPoint := laneOk_base.setPoint, output := laneOk_base.output, link := laneOk_base.link
    queue := laneOk_base.queue, key := laneOk_base.key, misses := laneOk_base.misses, view := laneOk_base.view
    mode := by
      refine ⟨rfl, rfl, rfl, rfl, rfl, ?_, ?_, ?_⟩
      · intro _; decide
      · intro h; exact absurd rfl h
      · intro h; cases h }

/-- The hypotheses on the table in ClearTripTakesItsPath, ReadyReplyUpdatesAndResolves and ClearTransactionEnds. -/
theorem witness_LaneLaw_while_tripped :
    LaneLaw (flying .clear false true (inMode (.tripped .drive 9 false (some mark)))) :=
  laneLaw_of (fun i => lane_one _ i) laneOk_clearing

/-- A pause. -/
def pause9 : Fin 24 := ⟨9, by decide +kernel⟩

/-- A state with a lane in service that meets the hypotheses of every StepKeeps statement. -/
theorem witness_StepKeepsLaws : Law (one base) where
  lanes := laneLaw_of (fun i => lane_one base i) laneOk_base
  pool := by unfold PoolLaw queued; decide +kernel
  strikes := by intro p; cases p <;> decide +kernel
  slots := by intro p; cases p <;> decide +kernel
  lease := by intro p; cases p <;> decide +kernel
  mask := by intro p; cases p <;> decide +kernel
  address := by
    intro i j l m hi hj _
    rw [lane_one] at hi hj
    split at hi <;> split at hj <;> simp_all
  tree := by
    intro j l hj
    have deep : ∀ j : LaneId, (one base).depth j ≤ 4 := by decide +kernel
    refine ⟨deep j, ?_⟩
    rw [lane_one] at hj
    split at hj
    · cases hj; intro k hk; cases hk
    · cases hj
  transmit :=
    { sending := by intro k cs h; cases h
      reading := by intro k left bits h; cases h
      byte := by intro phase bits h; cases h
      framer := by decide +kernel
      inBreak := by intro h; cases h }
  frames :=
    { present := by intro e he; cases he
      refs := by decide +kernel
      control := by
        intro i l hi hp
        rw [lane_one] at hi
        split at hi
        · cases hi; cases hp
        · cases hi
      noControl := by intro i _; revert i; decide +kernel
      flight := by intro t ht; cases ht }
  long :=
    { executing := by
        intro p k q f h
        have : ∀ (p : PortId) (k : SlotId), ((one base).port p).slots[k] = .free := by
          intro p; cases p <;> decide +kernel
        rw [this] at h
        cases h
      marked := by
        intro i l m hi hm
        rw [lane_one] at hi
        split at hi
        · cases hi; cases hm
        · cases hi
      owed := by
        intro p i h
        have : ((one base).port p).discard = [] := by cases p <;> rfl
        rw [this] at h
        cases h }

/-- A table is a follow tree if its depths and its parents say so. -/
theorem treeLaw_of {s : State} (deep : ∀ j : LaneId, s.depth j ≤ 4)
    (all : ∀ j k : LaneId, s.parentOf j = some k → (s.lane k).map (fun p => match p.mode with
      | .defining _ => true
      | _ => false) = some false) : TreeLaw s := by
  intro j l hj
  refine ⟨deep j, fun k hk => ?_⟩
  have h := all j k.parent (by simp [State.parentOf, hj, hk, Source.link])
  obtain ⟨p, hp, hb⟩ := Option.map_eq_some_iff.1 h
  refine ⟨p, hp, fun m hm => ?_⟩
  rw [hm] at hb
  cases hb

/-- The follow tree in TripCascadesDownCoupledLinks. -/
theorem witness_TreeLaw : TreeLaw (family (.stopping .command)) := treeLaw_of (by decide +kernel) (by decide +kernel)

/-- A record that stands as base does, TRIPPED, with another configuration and source. -/
theorem laneOk_tripped {c : TripCause} {n : Nat} {r : Bool} {m : Option Marker} {cfg : LaneCfg} {src : Source} (hc : cfgOk cfg = true)
    (hs : ∀ k, src = .follow k → LinkOk k) (h1 : c = .drive → 1 ≤ n ∧ n ≤ 63) (h2 : c ≠ .drive → n = 0) (h3 : c = .cascade → m = none) :
    LaneOk { base with mode := .tripped c n r m, cfg := cfg, source := src } :=
  { cfg := hc, setPoint := laneOk_base.setPoint, output := laneOk_base.output, link := hs
    queue := laneOk_base.queue, key := laneOk_base.key, misses := laneOk_base.misses, view := laneOk_base.view
    mode := ⟨rfl, rfl, rfl, rfl, rfl, h1, h2, h3⟩ }

/-- The hypotheses on the table in ResolutionCascadesDownChains. -/
theorem witness_ResolutionCascadesDownChains_table :
    TreeLaw (fallen .ref (.tripped .drive 9 false none) true) ∧ LaneLaw (fallen .ref (.tripped .drive 9 false none) true) := by
  refine ⟨treeLaw_of (by decide +kernel) (by decide +kernel), ?_⟩
  have link : ∀ p : LaneId, ∀ k, Source.follow { parent := p, ratio := 4096, trim := 0, basis := .output } = .follow k → LinkOk k := by
    intro p k h
    cases h
    exact ⟨by norm_num, by norm_num, by norm_num⟩
  intro i l hi
  unfold fallen at hi
  rw [State.lane_putLane, State.lane_putLane] at hi
  split at hi
  · cases hi
    exact laneOk_tripped (by decide +kernel) (link 5) (fun h => absurd h (by decide)) (fun _ => rfl) (fun _ => rfl)
  · split at hi
    · cases hi
      exact laneOk_tripped (by decide +kernel) (link 3) (fun h => absurd h (by decide)) (fun _ => rfl) (fun _ => rfl)
    · have h := (lane_one _ i).symm.trans hi
      split at h
      · cases h
        exact laneOk_tripped (by decide +kernel) (by intro k h; cases h) (fun _ => by decide) (fun h => absurd rfl h)
          (fun h => absurd h (by decide))
      · cases h

end Sys2Proof.Tests
end

section
/-! PROOF. The follow value (R76, R77) and how an ACTIVE update of the follower uses it (R26 to R34). -/

namespace Sys2Proof.FollowChains

open Sys2Proof.Machine

/-! ## The limits (R32, R77) -/

/-- Between limits in order, the model's clamp is the usual one. -/
theorem clampTo_eq_max_min {low high : Int} (h : low ≤ high) (d : Int) : clampTo low high d = max low (min high d) := by
  unfold clampTo
  split
  · omega
  · split <;> omega

/-! ## The four steps (R77) -/

/-- Truncation toward zero, by the sign of the dividend: floor division of a value that is not negative, and the negated quotient of
the negated value otherwise. -/
theorem tdiv_eq_ediv_of_sign {v r d : Int} (hr : 0 ≤ r) :
    (v * r).tdiv d = if 0 ≤ v then v * r / d else -((-v) * r / d) := by
  split
  · next hv => exact Int.tdiv_eq_ediv_of_nonneg (Int.mul_nonneg hv hr)
  · next hv =>
    have opposite : 0 ≤ -v * r := Int.mul_nonneg (by omega) hr
    calc (v * r).tdiv d = (-(-v * r)).tdiv d := by rw [Int.neg_mul, Int.neg_neg]
      _ = -((-v * r).tdiv d) := Int.neg_tdiv ..
      _ = -((-v) * r / d) := by rw [Int.tdiv_eq_ediv_of_nonneg opposite]

theorem followLink_value_eq (k : FollowLink) (v : Int) :
    k.value v = max (-30000) (min 30000 ((if 0 ≤ v then v * k.ratio / 4096 else -((-v) * k.ratio / 4096)) + k.trim)) := by
  unfold FollowLink.value
  rw [clampTo_eq_max_min (by decide), tdiv_eq_ediv_of_sign (Int.natCast_nonneg k.ratio)]

/-! ## The parent value and the base demand (R31, R76) -/

theorem parentValue_of_output {s : State} {k : FollowLink} {p : Lane} (hp : s.lane k.parent = some p) (hb : k.basis = .output) :
    s.parentValue k = p.output := by
  simp [State.parentValue, hp, hb]

theorem parentValue_of_view {s : State} {k : FollowLink} {p : Lane} {v : DriveView} (hp : s.lane k.parent = some p)
    (hb : k.basis = .feedback) (hv : p.view = some v) : s.parentValue k = v.feedback := by
  simp [State.parentValue, hp, hb, hv]

theorem parentValue_of_no_view {s : State} {k : FollowLink} {p : Lane} (hp : s.lane k.parent = some p)
    (hb : k.basis = .feedback) (hv : p.view = none) : s.parentValue k = p.output := by
  simp [State.parentValue, hp, hb, hv]

theorem baseDemand_of_follow {s : State} {l : Lane} {k : FollowLink} (h : l.source = .follow k) :
    s.baseDemand l = k.value (s.parentValue k) := by
  simp [State.baseDemand, h]

/-! ## The update's effect on the lane table (R26, R27) -/

@[simp] theorem lane_reportAll (s : State) (i j : LaneId) (rs : List LaneReport) : (s.reportAll i rs).lane j = s.lane j := by
  unfold State.reportAll
  induction rs generalizing s with
  | nil => rfl
  | cons r rs ih => rw [List.foldl_cons, ih, State.lane_report]

theorem lane_update_self (s : State) (i : LaneId) (l : Lane) :
    (s.update i l).lane i = some { (l.update (s.baseDemand l)).1 with timer := some l.cfg.periodTicks } := by
  simp [State.update]

theorem exec_laneUpdate {s : State} {i : LaneId} {l : Lane} {n : Nat} (running : s.held = false) (hl : s.lane i = some l)
    (ht : l.timer = some n) : exec (.laneUpdate i) s = .next (s.update i l) := by
  change execLaneUpdate i s = _
  simp [execLaneUpdate, whenRunning, running, hl, ht]

/-- With no held value and no profile the base demand rules (R30): it is clamped (R32), and the output makes one move (R33). -/
theorem output_update_of_base {l : Lane} (hm : l.mode = .active none .idle) (limits : l.cfg.lowLimit ≤ l.cfg.highLimit) (base : Int) :
    (l.update base).1.output = moveToward l.output (max l.cfg.lowLimit (min l.cfg.highLimit base)) (l.cfg.cap l.track) := by
  rw [← clampTo_eq_max_min limits]
  simp [Lane.update, hm, Lane.settle, advanceHead, demandOf]

/-- The follower reads its parent in the state in which its own update finds it (R76). -/
theorem follower_update {s : State} {i : LaneId} {l : Lane} {k : FollowLink} {n : Nat} (running : s.held = false)
    (hl : s.lane i = some l) (ht : l.timer = some n) (hm : l.mode = .active none .idle) (hs : l.source = .follow k)
    (limits : l.cfg.lowLimit ≤ l.cfg.highLimit) :
    ∃ t m, exec (.laneUpdate i) s = .next t ∧ t.lane i = some m
      ∧ m.output = moveToward l.output (max l.cfg.lowLimit (min l.cfg.highLimit (k.value (s.parentValue k)))) (l.cfg.cap l.track) := by
  refine ⟨_, _, exec_laneUpdate running hl ht, lane_update_self s i l, ?_⟩
  rw [← baseDemand_of_follow hs]
  exact output_update_of_base hm limits _

/-! ## A follower that meets these hypotheses -/

/-- A STANDBY lane in FIXED, with drive feedback 5000 while its output is 0. -/
def standbyParent : Lane :=
  { cfg := { address := 3, periodCode := 2, lowLimit := 0, highLimit := 6000, slewStep := 500, blendStep := 200, stopStep := 1500
             autoResume := false, coupled := true, fallback := .stop }
    pinned := false, driveType := some 4, source := .fixed, setPoint := 1000, output := 0, track := .blending, queue := []
    claim := none, view := some { state := .run, atRef := false, tripCode := 0, feedback := 5000 }, misses := 0
    mode := .standby, timer := some 4 }

/-- The link of the first row of the table of R77, with basis FEEDBACK. -/
def feedbackLink : FollowLink := { parent := 3, ratio := 4300, trim := 0, basis := .feedback }

/-- An ACTIVE follower of lane 3 whose high limit 5200 lies below the follow value 5249. -/
def activeFollower (output : Int) : Lane :=
  { standbyParent with
    cfg := { standbyParent.cfg with address := 8, highLimit := 5200 }, source := .follow feedbackLink, output := output
    mode := .active none .idle }

/-- The follower in lane 5, its parent in lane 3. -/
def followed (output : Int) : State := (State.reset.putLane 3 (some standbyParent)).putLane 5 (some (activeFollower output))

/-- The follower reads the feedback, not the output, and its update reaches the limit or moves one blend step toward it. -/
theorem follower_update_witness :
    (followed 5100).parentValue feedbackLink = 5000 ∧ feedbackLink.value 5000 = 5249
    ∧ (∃ t m, exec (.laneUpdate 5) (followed 5100) = .next t ∧ t.lane 5 = some m ∧ m.output = 5200)
    ∧ (∃ t m, exec (.laneUpdate 5) (followed 4900) = .next t ∧ t.lane 5 = some m ∧ m.output = 5100) := by
  have parent (x : Int) : (followed x).parentValue feedbackLink = 5000 :=
    parentValue_of_view (p := standbyParent) (by simp [followed, State.lane_putLane, feedbackLink]) rfl rfl
  have value : feedbackLink.value 5000 = 5249 := by decide
  have update (x : Int) : ∃ t m, exec (.laneUpdate 5) (followed x) = .next t ∧ t.lane 5 = some m
      ∧ m.output = moveToward x (max 0 (min 5200 5249)) 200 := by
    have h := follower_update (s := followed x) (i := 5) (l := activeFollower x) (k := feedbackLink) (n := 4) rfl
      (State.lane_putLane_self ..) rfl rfl rfl (by decide : (0 : Int) ≤ 5200)
    rwa [parent, value] at h
  exact ⟨parent _, value, update 5100, update 4900⟩

/-! ## The statement -/

/-- Settles O36: the four steps, the base demand, the rule's table evaluated row by row, the parent value by basis, and the update. -/
theorem followValueIsFourSteps : Obligations.FollowValueIsFourSteps := by
  refine ⟨⟨followLink_value_eq, fun s l k => baseDemand_of_follow, ?table⟩, fun s k p hp => ?basis, ?update⟩
  case table =>
    intro r x v y row
    simp only [List.mem_cons, List.not_mem_nil, or_false, Prod.mk.injEq] at row
    obtain ⟨rfl, rfl, rfl, rfl⟩ | ⟨rfl, rfl, rfl, rfl⟩ | ⟨rfl, rfl, rfl, rfl⟩ | ⟨rfl, rfl, rfl, rfl⟩ | ⟨rfl, rfl, rfl, rfl⟩
      | ⟨rfl, rfl, rfl, rfl⟩ := row <;> decide
  case basis =>
    exact ⟨parentValue_of_output hp, fun v => parentValue_of_view hp, parentValue_of_no_view hp⟩
  case update =>
    intro s i l k n running hl ht hm hs limits
    exact follower_update running hl ht hm hs limits

end Sys2Proof.FollowChains
end

section
/-! PROOF. SET_LEASE (R128) and the frame that restarts a lease (R127). -/

namespace Sys2Proof.LeasePeriods

open Sys2Proof.Machine Sys2Proof.Safety

/-! ## The lease's own operations (R126 to R128) -/

@[simp] theorem leaseTicks_zero : leaseTicks 0 = none := rfl

theorem leaseTicks_of_pos {n : Nat} (h : 1 ≤ n) : leaseTicks n = some (10 * n) := if_neg (Nat.ne_of_gt h)

theorem setPeriod_of_live {l : Lease} (live : l.lapsed = false) (n : Nat) :
    l.setPeriod n = { period := n, lapsed := false, timer := leaseTicks n } := by
  simp [Lease.setPeriod, live]

theorem setPeriod_of_lapsed {l : Lease} (lapsed : l.lapsed = true) (n : Nat) :
    l.setPeriod n = { period := n, lapsed := true, timer := l.timer } := by
  simp [Lease.setPeriod, lapsed]

/-! ## A request that names no lane (R153 steps 2 and 3) -/

theorem laneless_of_shape_bad (c : Ctx) (s : State) (rest : Answer × State) : laneless c false s rest = (.refuse .badField, s) := rfl

theorem laneless_of_lane_ne {c : Ctx} (lane : c.req.lane ≠ 255#8) (s : State) (rest : Answer × State) :
    laneless c true s rest = (.refuse .badLane, s) := if_pos lane

theorem laneless_of_lane_eq {c : Ctx} (lane : c.req.lane = 255#8) (s : State) (rest : Answer × State) :
    laneless c true s rest = rest := if_neg (not_not_intro lane)

theorem lengthIs_eq_true {c : Ctx} {n : Nat} (h : c.req.payload.length = n) : c.lengthIs n = true := beq_iff_eq.2 h

theorem lengthIs_eq_false {c : Ctx} {n : Nat} (h : c.req.payload.length ≠ n) : c.lengthIs n = false := beq_eq_false_iff_ne.2 h

/-- Answered OK, with no key check, after a rewrite of the request's own port that does not turn on the slot it takes. -/
theorem onlyAnswered_of_ok_port {s : State} {c : Ctx} {payload : List Byte} {act : Request.Action} {f : Port → Port} {p : Port}
    (e : act c (s.takeRequest c) = (.ok payload, (s.takeRequest c).modPort c.port f))
    (hf : f ((s.port c.port).setSlot c.slot (.executing c.req c.lapsed)) = p.setSlot c.slot (.executing c.req c.lapsed)) :
    OnlyAnswered s ((act c (s.takeRequest c)).2.finish c (act c (s.takeRequest c)).1) c p .ok payload := by
  rw [e]; exact onlyAnswered_take s c f p .ok payload hf

/-! ## SET_LEASE (R128) -/

/-- The state in which SET_LEASE leaves the part, by the answer that its action comes to. -/
def afterSetLease (s : State) (c : Ctx) : State :=
  (setLeaseAction c (s.takeRequest c)).2.finish c (setLeaseAction c (s.takeRequest c)).1

theorem exec_setLease {s : State} {c : Ctx} (serves : Serves s c .setLease) : exec .setLease s = .next (afterSetLease s c) :=
  runEngine_of_serves serves setLeaseAction

theorem setLease_refuses_length {c : Ctx} (length : c.req.payload.length ≠ 1) (s : State) :
    OnlyAnswered s (afterSetLease s c) c (s.port c.port) .badField [] :=
  onlyAnswered_of_refuse_plain (by rw [setLeaseAction, lengthIs_eq_false length, laneless_of_shape_bad])

theorem setLease_refuses_lane {c : Ctx} (length : c.req.payload.length = 1) (lane : c.req.lane ≠ 255#8) (s : State) :
    OnlyAnswered s (afterSetLease s c) c (s.port c.port) .badLane [] :=
  onlyAnswered_of_refuse_plain (by rw [setLeaseAction, lengthIs_eq_true length, laneless_of_lane_ne lane])

/-- An accepted SET_LEASE writes the lease of its own port by Lease.setPeriod. -/
theorem setLease_accepts {s : State} {c : Ctx} {l : Lease} (length : c.req.payload.length = 1) (lane : c.req.lane = 255#8)
    (period : (s.port c.port).lease.setPeriod (byteAt c.req.payload 0).toNat = l) :
    OnlyAnswered s (afterSetLease s c) c { s.port c.port with lease := l } .ok [] := by
  subst period
  have action : setLeaseAction c (s.takeRequest c) = (.ok [], (s.takeRequest c).modPort c.port fun p =>
      { p with lease := p.lease.setPeriod (byteAt c.req.payload 0).toNat }) := by
    rw [setLeaseAction, lengthIs_eq_true length, laneless_of_lane_eq lane]
  exact onlyAnswered_of_ok_port action rfl

/-! ## The next frame (R127, R148) -/

/-- A good frame takes a slot, which restarts the lease, or reaches neither the delivery order nor the lease. -/
theorem arrive_order_lease (p : Port) (q : Request) :
    ((p.arrive q).order = p.order ∧ (p.arrive q).lease = p.lease)
      ∨ ((∃ k, (p.arrive q).order = p.order ++ [k]) ∧ (p.arrive q).lease = p.lease.restart) := by
  unfold Port.arrive
  split
  case h_1 => exact .inl ⟨rfl, rfl⟩
  case h_2 =>
    split
    · exact .inl ⟨p.takeOverrun_order, p.takeOverrun_lease⟩
    · next k _ => exact .inr ⟨⟨k, rfl⟩, rfl⟩
  case h_3 =>
    split
    · exact .inl ⟨p.takeOverrun_order, p.takeOverrun_lease⟩
    · next k _ => exact .inr ⟨⟨k, rfl⟩, rfl⟩

@[simp] theorem port_frameEnded (s : State) (p q : PortId) (received : Nat) : (s.frameEnded p received).port q = s.port q := by
  cases p <;> cases q <;> rfl

theorem port_receive (s : State) (p : PortId) (bytes : List Byte) :
    (s.receive p bytes).port p = s.port p ∨ ∃ q, (s.receive p bytes).port p = (s.port p).arrive q := by
  unfold State.receive
  cases parseFrame bytes with
  | none => exact .inl (port_frameEnded ..)
  | some q => exact .inr ⟨q, by simp⟩

/-- A row's event at a port acts, or port S is in a transaction and nothing changes. -/
theorem atPort_cases (s : State) (p : PortId) (f : State → State) : s.atPort p f = s ∨ s.atPort p f = f s := by
  cases p with
  | u => exact .inr (s.atPort_u f)
  | s =>
    unfold State.atPort
    cases s.spi with
    | deselected => exact .inr rfl
    | selected phase bits => exact .inl rfl

theorem exec_goodFrame_of_open {s : State} {p : PortId} (running : s.held = false) (isOpen : PortOpen s p) (bytes : List Byte) :
    exec (.goodFrame p bytes) s = .next (s.receive p bytes) := by
  change execGoodFrame p bytes s = _
  simp [execGoodFrame, whenRunning, running, State.atPort_of_open isOpen]

/-- At GOOD_FRAME the port takes a frame, or stays as it was: the part is held, port S is in a transaction, the bytes are no good frame. -/
theorem port_of_exec_goodFrame {s t : State} {p : PortId} {bytes : List Byte} (h : exec (.goodFrame p bytes) s = .next t) :
    t.port p = s.port p ∨ ∃ q, t.port p = (s.port p).arrive q := by
  obtain rfl : (if s.held then s else s.atPort p (·.receive p bytes)) = t := Host.Outcome.next.inj h
  split
  · exact .inl rfl
  · obtain same | acts := atPort_cases s p (·.receive p bytes)
    · exact .inl (by rw [same])
    · rw [acts]
      exact port_receive s p bytes

/-- The delivery order changes at a frame only if the frame takes a slot. -/
theorem goodFrame_restarts_lease {s t : State} {p : PortId} {bytes : List Byte} (h : exec (.goodFrame p bytes) s = .next t)
    (taken : (t.port p).order ≠ (s.port p).order) : (t.port p).lease = (s.port p).lease.restart := by
  obtain same | ⟨q, arrived⟩ := port_of_exec_goodFrame h
  · exact absurd (congrArg Port.order same) taken
  · rw [arrived] at taken ⊢
    obtain ⟨order, -⟩ | ⟨-, lease⟩ := arrive_order_lease (s.port p) q
    · exact absurd order taken
    · exact lease

/-! ## A lapsed port that meets these hypotheses -/

/-- A SET_LEASE of period 2 in slot 0 of port S. -/
def periodTwo : Ctx :=
  { port := .s, slot := 0, lapsed := false
    req := { seq := 5, code := 0x42, lane := 255, key := 0, payload := [2#8], crc := 9 } }

/-- Port S has lapsed with that request QUEUED. -/
def lapsedAsking : State :=
  State.reset.modPort .s fun p =>
    { p.setSlot 0 (.queued periodTwo.req false) with order := [0], lease := { period := 4, lapsed := true, timer := none } }

/-- A NOP frame. -/
def nopFrame : List Byte := frameBytes 6 0x54 255 0 []

/-- SET_LEASE leaves the timer stopped, and the NOP frame after it takes slot 1 and restarts the lease with the new period. -/
theorem lapsed_period_witness :
    exec .setLease lapsedAsking = .next (afterSetLease lapsedAsking periodTwo)
    ∧ (afterSetLease lapsedAsking periodTwo).portS.lease = { period := 2, lapsed := true, timer := none }
    ∧ ∃ u, exec (.goodFrame .s nopFrame) (afterSetLease lapsedAsking periodTwo) = .next u
      ∧ u.portS.order = [0, 1] ∧ u.portS.lease = { period := 2, lapsed := false, timer := some 20 } := by
  have serves : Serves lapsedAsking periodTwo .setLease := ⟨rfl, by decide +kernel, by decide⟩
  have written : OnlyAnswered lapsedAsking (afterSetLease lapsedAsking periodTwo) periodTwo
      { lapsedAsking.portS with lease := { period := 2, lapsed := true, timer := none } } .ok [] := setLease_accepts rfl rfl rfl
  have lease : (afterSetLease lapsedAsking periodTwo).portS.lease = _ := written.answered.lease
  have order : (afterSetLease lapsedAsking periodTwo).portS.order = [0] := written.answered.order
  have arrives : exec (.goodFrame .s nopFrame) (afterSetLease lapsedAsking periodTwo)
      = .next ((afterSetLease lapsedAsking periodTwo).receive .s nopFrame) :=
    exec_goodFrame_of_open written.lines.held (fun _ => written.lines.spi) nopFrame
  have taken : ((afterSetLease lapsedAsking periodTwo).receive .s nopFrame).portS.order = [0, 1] := by decide +kernel
  have restarts := goodFrame_restarts_lease arrives (by rw [State.port_s, State.port_s, taken, order]; decide)
  rw [State.port_s, State.port_s, lease] at restarts
  exact ⟨exec_setLease serves, lease, _, arrives, taken, restarts⟩

/-! ## The statement -/

/-- Settles O34: both refusals, then the accepted request by the lease state; the frame after a LAPSED one finds the lease as written. -/
theorem setLeaseActsOnOwnPort : Obligations.SetLeaseActsOnOwnPort := by
  intro s c serves
  refine ⟨afterSetLease s c, exec_setLease serves, (setLease_refuses_length · s), (setLease_refuses_lane · · s),
    fun length lane => ⟨?live, ?off, ?lapsed⟩⟩
  case live =>
    rintro n rfl live positive
    exact setLease_accepts length lane (by rw [setPeriod_of_live live, leaseTicks_of_pos positive])
  case off =>
    intro zero live
    exact setLease_accepts length lane (by rw [setPeriod_of_live live, zero, leaseTicks_zero])
  case lapsed =>
    rintro n rfl lapsed stopped
    have written : OnlyAnswered s (afterSetLease s c) c
        { s.port c.port with lease := { period := (byteAt c.req.payload 0).toNat, lapsed := true, timer := none } } .ok [] :=
      setLease_accepts length lane (by rw [setPeriod_of_lapsed lapsed, stopped])
    refine ⟨written, fun bytes u arrives taken => ?_⟩
    rw [goodFrame_restarts_lease arrives taken, written.answered.lease]
    rfl

end Sys2Proof.LeasePeriods
end

section
/-! PROOF. The lane field of a request (R154): which requests step 3 refuses, and that one that names no lane never meets its key. -/

namespace Sys2Proof.LaneFields

open Sys2Proof.Machine Sys2Proof.Safety Sys2Proof.LeasePeriods

/-! ## The event of a request -/

/-- The checks and actions of each request; UNKNOWN_REQUEST stands for the rows that are no request. -/
def actionOf : Instr → Request.Action
  | .defineLane => defineAction
  | .amendLane => amendAction
  | .pinLane => pinAction
  | .retireLane => retireAction
  | .readLane => readLaneAction
  | .findDrive => findDriveAction
  | .listLanes => listLanesAction
  | .start => startAction
  | .stop => stopAction
  | .hold => holdAction
  | .resume => resumeAction
  | .setPoint => setPointAction
  | .setSource => setSourceAction
  | .setRatio => setRatioAction
  | .clearTrip => clearTripAction
  | .appendSegment => appendAction
  | .runProfile => runProfileAction
  | .pauseProfile => pauseProfileAction
  | .flushProfile => flushProfileAction
  | .readProfile => readProfileAction
  | .claim => claimAction
  | .release => releaseAction
  | .setLease => setLeaseAction
  | .setAttentionMask => setAttentionMaskAction
  | .readAttention => readAttentionAction
  | .ackAttention => ackAttentionAction
  | .readDevice => readDeviceAction
  | .nop => nopAction
  | _ => unknownAction

theorem exec_eq_runEngine (s : State) : ∀ row ∈ laneRows ++ deviceRows, exec row s = runEngine row (actionOf row) s := by
  intro row request
  fin_cases request <;> rfl

/-- The state in which the engine leaves the part after a request. -/
def afterRequest (act : Request.Action) (s : State) (c : Ctx) : State :=
  (act c (s.takeRequest c)).2.finish c (act c (s.takeRequest c)).1

theorem exec_request {row : Instr} {s : State} {c : Ctx} (request : row ∈ laneRows ++ deviceRows) (serves : Serves s c row) :
    exec row s = .next (afterRequest (actionOf row) s c) := by
  rw [exec_eq_runEngine s row request]
  exact runEngine_of_serves serves _

/-! ## Step 2 passes (R153, R192) -/

theorem defineShape_of {pl : List Byte} (length : pl.length = 21) (reserved : (byteAt pl 11).toNat < 16) : defineShape pl = true := by
  simp [defineShape, length, reserved]

theorem toNat_amendMask (pl : List Byte) : (amendMask pl).toNat = u16At pl 0 := by
  have high := (byteAt pl 0).isLt
  have low := (byteAt pl (0 + 1)).isLt
  rw [amendMask, BitVec.toNat_ofNat, Nat.mod_eq_of_lt (by unfold u16At; omega)]

/-- A 16-bit value below 1024 has no bit at 10 to 15. -/
theorem and_reserved_eq_zero {m : Half} (h : m.toNat < 1024) : m &&& 0xFC00#16 = 0#16 := by
  have small : m = BitVec.setWidth 16 (BitVec.setWidth 10 m) := by
    apply BitVec.eq_of_toNat_eq
    rw [BitVec.toNat_setWidth, BitVec.toNat_setWidth]
    omega
  rw [small]
  generalize BitVec.setWidth 10 m = low
  revert low
  decide +kernel

theorem amendShape_of {pl : List Byte} (length : pl.length = 14) (mask : u16At pl 0 < 1024) (reserved : (byteAt pl 13).toNat < 16) :
    amendShape pl = true := by
  have bits : amendMask pl &&& 0xFC00#16 = 0#16 := and_reserved_eq_zero (by rwa [toNat_amendMask])
  simp [amendShape, length, reserved, bits]

theorem ratioShape_of {pl : List Byte} (length : pl.length = 5)
    (reserved : ∀ b : Fin 6, (byteAt pl 4).getLsbD (b.val + 1) = false) : ratioShape pl = true := by
  have bits : ∀ x : Byte, (∀ b : Fin 6, x.getLsbD (b.val + 1) = false) → x &&& 0x7E#8 = 0#8 := by decide +kernel
  simp [ratioShape, length, bits _ reserved]

theorem maskShape_of {pl : List Byte} (length : pl.length = 2) (mask : u16At pl 0 < 1024) : maskShape pl = true := by
  simp [maskShape, length, mask]

theorem ackShape_of {pl : List Byte} (pairs : ∃ n : Nat, n ≤ 8 ∧ pl.length = 2 * n) : ackShape pl = true := by
  obtain ⟨n, most, length⟩ := pairs
  simp [ackShape, length]
  omega

/-! ## A slot that holds no BAD_LANE -/

/-- If the request's slot is answered, then not with BAD_LANE. -/
def NotBadLane (c : Ctx) (t : State) : Prop := ∀ x, (t.port c.port).slots[c.slot] = .answered x → x.result ≠ .badLane

/-- Neither the answer that a request comes to nor the one its slot holds is BAD_LANE. -/
def ComesToOther (c : Ctx) (out : Answer × State) : Prop := out.1 ≠ .refuse .badLane ∧ NotBadLane c out.2

theorem notBadLane_takeRequest (s : State) (c : Ctx) : NotBadLane c (s.takeRequest c) := by
  intro x h
  rw [State.takeRequest_port_self] at h
  simp at h

theorem notBadLane_congr {c : Ctx} {t u : State} (ports : ∀ p, u.port p = t.port p) (clean : NotBadLane c t) : NotBadLane c u := by
  unfold NotBadLane
  rwa [ports]

/-- A rewrite of a port that puts no BAD_LANE into a slot. -/
theorem notBadLane_modPort {c : Ctx} {t : State} {p : PortId} {f : Port → Port}
    (adds : ∀ (q : Port) (k : SlotId) x, (f q).slots[k] = .answered x → q.slots[k] = .answered x ∨ x.result ≠ .badLane)
    (clean : NotBadLane c t) : NotBadLane c (t.modPort p f) := by
  intro x h
  rw [State.port_modPort] at h
  split at h
  · next same =>
    subst same
    exact (adds _ _ _ h).elim (clean x) id
  · exact clean x h

theorem notBadLane_modPort_of_slots {c : Ctx} {t : State} {p : PortId} {f : Port → Port} (slots : ∀ q, (f q).slots = q.slots)
    (clean : NotBadLane c t) : NotBadLane c (t.modPort p f) :=
  notBadLane_modPort (fun q _ _ h => Or.inl (by rwa [slots q] at h)) clean

/-- Answering puts nothing but the answer's result into a slot. -/
theorem answer_adds {r : Result} (other : r ≠ .badLane) {p : Port} {j k : SlotId} {payload : List Byte} {x : Response}
    (h : (p.answer j r payload).slots[k] = .answered x) : p.slots[k] = .answered x ∨ x.result ≠ .badLane := by
  unfold Port.answer at h
  split at h
  case h_1 =>
    change (p.setSlot j _).slots[k] = _ at h
    rw [Port.slots_setSlot] at h
    split at h
    · cases h
      exact Or.inr other
    · exact Or.inl h
  all_goals exact Or.inl h

theorem notBadLane_answer {c : Ctx} {t : State} {p : PortId} {k : SlotId} {r : Result} {payload : List Byte} (other : r ≠ .badLane)
    (clean : NotBadLane c t) : NotBadLane c (t.modPort p (·.answer k r payload)) :=
  notBadLane_modPort (fun _ _ _ => answer_adds other) clean

theorem notBadLane_answerLong {c : Ctx} {t : State} {p : PortId} {i : LaneId} {k : SlotId} {r : Result} {payload : List Byte}
    (other : r ≠ .badLane) (clean : NotBadLane c t) : NotBadLane c (t.modPort p (·.answerLong i k r payload)) := by
  refine notBadLane_modPort (fun q j x h => ?_) clean
  unfold Port.answerLong at h
  split at h
  · exact Or.inl h
  · exact answer_adds other h

theorem notBadLane_finish {c : Ctx} {out : Answer × State} (comes : ComesToOther c out) : NotBadLane c (out.2.finish c out.1) := by
  obtain ⟨answer, t⟩ := out
  obtain ⟨other, clean⟩ := comes
  cases answer with
  | refuse r => exact notBadLane_answer (fun e => other (e ▸ rfl)) clean
  | ok payload => exact notBadLane_answer (by decide) clean
  | wait => exact clean

/-! ## What the requests write puts no BAD_LANE into a slot -/

theorem notBadLane_putLane {c : Ctx} {t : State} {i : LaneId} {o : Option Lane} (clean : NotBadLane c t) :
    NotBadLane c (t.putLane i o) := notBadLane_congr (fun p => State.port_putLane t i o p) clean

theorem notBadLane_pushControl {c : Ctx} {t : State} {i : LaneId} {k : FrameKind} (clean : NotBadLane c t) :
    NotBadLane c (t.pushControl i k) := notBadLane_congr (fun p => State.port_pushControl t i k p) clean

theorem notBadLane_amend {c : Ctx} {t : State} {i : LaneId} {m : Half} {cfg : LaneCfg} {l : Lane} (clean : NotBadLane c t) :
    NotBadLane c (t.amend i m cfg l) := by
  unfold State.amend
  split
  · exact notBadLane_putLane clean
  · exact notBadLane_congr (fun p => by cases p <;> rfl) clean

theorem notBadLane_enterVacant {c : Ctx} {t : State} {i : LaneId} (clean : NotBadLane c t) : NotBadLane c (t.enterVacant i) := by
  refine notBadLane_modPort_of_slots (fun q => Port.dropLane_slots q i) ?_
  refine notBadLane_modPort_of_slots (fun q => Port.dropLane_slots q i) ?_
  exact notBadLane_congr (fun p => by cases p <;> rfl) clean

theorem notBadLane_report {c : Ctx} {t : State} {i : LaneId} {r : LaneReport} (clean : NotBadLane c t) :
    NotBadLane c (t.report i r) := by
  have takes : ∀ q : Port, (q.takeLane i r).slots = q.slots := fun q => Port.takeLane_slots q i r
  unfold State.report
  split
  · exact notBadLane_modPort_of_slots takes clean
  · exact notBadLane_modPort_of_slots takes (notBadLane_modPort_of_slots takes clean)

theorem notBadLane_preemptClear {c : Ctx} {t : State} {j : LaneId} {m : Option Marker} (clean : NotBadLane c t) :
    NotBadLane c (t.preemptClear j m) := by
  cases m with
  | none => exact clean
  | some m =>
    exact notBadLane_congr (t := t.modPort m.port (·.answerLong j m.slot .ok [])) (fun p => by cases p <;> rfl)
      (notBadLane_answerLong (by decide) clean)

theorem notBadLane_leaveOne {c : Ctx} {t : State} {j : LaneId} {l : Lane} {a : Bool} (clean : NotBadLane c t) :
    NotBadLane c (t.leaveOne j l a) := by
  cases a with
  | false => exact notBadLane_preemptClear (notBadLane_putLane clean)
  | true => exact notBadLane_preemptClear (notBadLane_report (notBadLane_putLane clean))

/-- A resolution event answers CLEAR_TRIP requests alone, with OK (R112). -/
theorem notBadLane_leaveTripped {c : Ctx} {t : State} {root : LaneId} {a : Bool} (clean : NotBadLane c t) :
    NotBadLane c (t.leaveTripped root a) := by
  refine foldl_keeps (NotBadLane c) (fun u j keeps => ?_) allLanes t clean
  unfold State.resolveOne
  split
  · exact keeps
  · split
    · exact notBadLane_leaveOne keeps
    · split
      · exact keeps
      · split
        · exact notBadLane_putLane keeps
        · exact keeps

/-! ## Steps 5 to 13 of a request that addresses a lane -/

section
variable {c : Ctx} {t : State}

@[simp] theorem comesToOther_refuse {r : Result} : ComesToOther c (.refuse r, t) ↔ r ≠ .badLane ∧ NotBadLane c t := by
  simp [ComesToOther]

@[simp] theorem comesToOther_ok {payload : List Byte} : ComesToOther c (.ok payload, t) ↔ NotBadLane c t := by simp [ComesToOther]

@[simp] theorem comesToOther_wait : ComesToOther c (.wait, t) ↔ NotBadLane c t := by simp [ComesToOther]

theorem keyCheck_other {claiming : Bool} {l : Lane} (clean : NotBadLane c t) :
    (keyCheck c claiming l t).1 ≠ some .badLane ∧ NotBadLane c (keyCheck c claiming l t).2 := by
  have struck : NotBadLane c (t.modPort c.port Port.strike) := notBadLane_modPort_of_slots Port.strike_slots clean
  have cleared : NotBadLane c (t.modPort c.port Port.clearStrikes) := notBadLane_modPort_of_slots Port.clearStrikes_slots clean
  unfold keyCheck
  split
  · split <;> simp [clean]
  · split_ifs <;> simp [clean, struck, cleared]

theorem keyed_other {claiming : Bool} {l : Lane} {rest : State → Answer × State} (clean : NotBadLane c t)
    (others : ∀ u, NotBadLane c u → ComesToOther c (rest u)) : ComesToOther c (keyed c claiming l t rest) := by
  have key := keyCheck_other (claiming := claiming) (l := l) clean
  unfold keyed
  split
  · next r u e =>
    rw [e] at key
    exact comesToOther_refuse.2 ⟨fun h => key.1 (h ▸ rfl), key.2⟩
  · next u e =>
    rw [e] at key
    split
    · exact comesToOther_refuse.2 ⟨by decide, key.2⟩
    · exact others u key.2

theorem parentRefusal_ne_badLane (cycle : Bool) (parent : LaneId) (height : Nat) :
    t.parentRefusal cycle parent height ≠ some .badLane := by
  unfold State.parentRefusal
  split
  · simp
  · split
    · simp
    · split
      · simp
      all_goals split <;> simp

theorem sourceRefusal_ne_badLane (i : LaneId) (src : Source) : t.sourceRefusal i src ≠ some .badLane := by
  cases src with
  | fixed => simp [State.sourceRefusal]
  | follow k => exact parentRefusal_ne_badLane _ _ _

theorem defineRefusal_ne_badLane (i : LaneId) (cfg : LaneCfg) (src : Source) : t.defineRefusal i cfg src ≠ some .badLane := by
  unfold State.defineRefusal
  split
  · simp
  · cases src with
    | fixed => simp
    | follow k => exact parentRefusal_ne_badLane _ _ _

theorem defineVacant_other {i : LaneId} (clean : NotBadLane c t) : ComesToOther c (defineVacant c i t) := by
  unfold defineVacant
  dsimp only
  split
  · split
    · exact comesToOther_refuse.2 ⟨by decide, clean⟩
    · split
      · next r e => exact comesToOther_refuse.2 ⟨fun h => defineRefusal_ne_badLane _ _ _ (h ▸ e), clean⟩
      · exact comesToOther_wait.2 (notBadLane_pushControl (notBadLane_putLane clean))
  · exact comesToOther_refuse.2 ⟨by decide, clean⟩

end

/-! ## Step 3 of a request that addresses a lane -/

/-- Step 3 of a request that addresses a lane, step 2 passed: a lane field above 23 is refused on the spot, and past it no answer is
BAD_LANE. -/
structure ChecksLane (act : Request.Action) (c : Ctx) : Prop where
  refuses : laneOf c.req.lane = none → ∀ t, act c t = (.refuse .badLane, t)
  passes : ∀ i, laneOf c.req.lane = some i → ∀ t, NotBadLane c t → ComesToOther c (act c t)

/-- A changing request that addresses a lane (R153). -/
theorem checksLane_of_changing {act : Request.Action} {c : Ctx} {test claiming : Bool}
    {rest : LaneId → Lane → State → Answer × State} (form : ∀ t, act c t = changing c test claiming t rest) (shape : test = true)
    (others : ∀ i l u, NotBadLane c u → ComesToOther c (rest i l u)) : ChecksLane act c := by
  subst shape
  refine ⟨fun lane t => by simp [form, changing, lane], fun i lane t clean => ?_⟩
  rw [form]
  cases record : t.lane i with
  | none => simpa [changing, lane, record] using clean
  | some l => simpa [changing, lane, record] using keyed_other clean (others i l)

section
variable {c : Ctx}

theorem defineLane_checks (shape : shapeOk .defineLane c.req.payload) : ChecksLane defineAction c := by
  have shape : defineShape c.req.payload = true := defineShape_of shape.1 shape.2
  refine ⟨fun lane t => by simp [defineAction, shape, lane], fun i lane t clean => ?_⟩
  cases record : t.lane i with
  | none => simpa [defineAction, shape, lane, record] using defineVacant_other clean
  | some l =>
    simpa [defineAction, shape, lane, record] using
      keyed_other clean fun u clean => comesToOther_refuse.2 ⟨by decide, clean⟩

theorem readLane_checks (shape : shapeOk .readLane c.req.payload) : ChecksLane readLaneAction c := by
  have shape : c.lengthIs 0 = true := lengthIs_eq_true shape
  exact ⟨fun lane t => by simp [readLaneAction, shape, lane], fun i lane t clean => by simpa [readLaneAction, shape, lane] using clean⟩

theorem readProfile_checks (shape : shapeOk .readProfile c.req.payload) : ChecksLane readProfileAction c := by
  have shape : c.lengthIs 1 = true := lengthIs_eq_true shape
  refine ⟨fun lane t => by simp [readProfileAction, shape, lane], fun i lane t clean => ?_⟩
  cases record : t.lane i with
  | none => simpa [readProfileAction, shape, lane, record] using clean
  | some l =>
    simp only [readProfileAction, shape, lane, record]
    split_ifs <;> simp [clean]

theorem amendLane_checks (shape : shapeOk .amendLane c.req.payload) : ChecksLane amendAction c := by
  obtain ⟨length, mask, reserved⟩ := shape
  refine checksLane_of_changing (fun _ => rfl) (amendShape_of length mask reserved) fun i l u clean => ?_
  dsimp only
  split_ifs
  case neg =>
    split
    · simp [clean]
    · split_ifs <;> simp [clean, notBadLane_amend]
  all_goals simp [clean]

theorem pinLane_checks (shape : shapeOk .pinLane c.req.payload) : ChecksLane pinAction c :=
  checksLane_of_changing (fun _ => rfl) (lengthIs_eq_true shape) fun _ _ _ clean => comesToOther_ok.2 (notBadLane_putLane clean)

theorem retireLane_checks (shape : shapeOk .retireLane c.req.payload) : ChecksLane retireAction c := by
  refine checksLane_of_changing (fun _ => rfl) (lengthIs_eq_true shape) fun i l u clean => ?_
  split_ifs <;> simp [clean, notBadLane_enterVacant]

theorem start_checks (shape : shapeOk .start c.req.payload) : ChecksLane startAction c := by
  refine checksLane_of_changing (fun _ => rfl) (lengthIs_eq_true shape) fun i l u clean => ?_
  split_ifs
  case neg =>
    cases l.view with
    | none => simp [clean]
    | some v => dsimp only; split_ifs <;> simp [clean, notBadLane_putLane]
  all_goals simp [clean]

theorem stop_checks (shape : shapeOk .stop c.req.payload) : ChecksLane stopAction c :=
  checksLane_of_changing (fun _ => rfl) (lengthIs_eq_true shape) fun _ l _ clean => by
    cases l.mode <;> simp [clean, notBadLane_putLane]

theorem hold_checks (shape : shapeOk .hold c.req.payload) : ChecksLane holdAction c :=
  checksLane_of_changing (fun _ => rfl) (lengthIs_eq_true shape) fun _ l _ clean => by
    cases l.mode <;> simp [clean, notBadLane_putLane]

theorem resume_checks (shape : shapeOk .resume c.req.payload) : ChecksLane resumeAction c :=
  checksLane_of_changing (fun _ => rfl) (lengthIs_eq_true shape) fun _ l _ clean => by
    split <;> simp [clean, notBadLane_putLane]

theorem setPoint_checks (shape : shapeOk .setPoint c.req.payload) : ChecksLane setPointAction c :=
  checksLane_of_changing (fun _ => rfl) (lengthIs_eq_true shape) fun _ _ _ clean => by
    split <;> simp [clean, notBadLane_putLane]

theorem setSource_checks (shape : shapeOk .setSource c.req.payload) : ChecksLane setSourceAction c := by
  refine checksLane_of_changing (fun _ => rfl) (lengthIs_eq_true shape) fun i l u clean => ?_
  split
  · simp [clean]
  · split
    · simp [clean]
    · split
      · next r e => exact comesToOther_refuse.2 ⟨fun h => sourceRefusal_ne_badLane _ _ (h ▸ e), clean⟩
      · exact comesToOther_ok.2 (notBadLane_putLane clean)

theorem setRatio_checks (shape : shapeOk .setRatio c.req.payload) : ChecksLane setRatioAction c := by
  refine checksLane_of_changing (fun _ => rfl) (ratioShape_of shape.1 shape.2) fun i l u clean => ?_
  cases l.source with
  | fixed => simp [clean]
  | follow k => dsimp only; split <;> simp [clean, notBadLane_putLane]

theorem clearTrip_checks (shape : shapeOk .clearTrip c.req.payload) : ChecksLane clearTripAction c := by
  refine checksLane_of_changing (fun _ => rfl) (lengthIs_eq_true shape) fun i l u clean => ?_
  split
  case h_1 => exact comesToOther_ok.2 (notBadLane_leaveTripped clean)
  case h_4 => exact comesToOther_wait.2 (notBadLane_pushControl (notBadLane_putLane clean))
  all_goals simp [clean]

theorem appendSegment_checks (shape : shapeOk .appendSegment c.req.payload) : ChecksLane appendAction c := by
  refine checksLane_of_changing (fun _ => rfl) (lengthIs_eq_true shape) fun i l u clean => ?_
  cases l.mode with
  | standby | active =>
    cases segmentOf c.req.payload with
    | none => simp [clean]
    | some g => dsimp only; split_ifs <;> simp [clean, notBadLane_putLane]
  | _ => simp [clean]

theorem runProfile_checks (shape : shapeOk .runProfile c.req.payload) : ChecksLane runProfileAction c := by
  refine checksLane_of_changing (fun _ => rfl) (lengthIs_eq_true shape) fun i l u clean => ?_
  split
  case h_1 held run e =>
    split
    · simp [clean]
    · cases run <;> simp [clean, notBadLane_putLane]
  all_goals simp [clean]

theorem pauseProfile_checks (shape : shapeOk .pauseProfile c.req.payload) : ChecksLane pauseProfileAction c :=
  checksLane_of_changing (fun _ => rfl) (lengthIs_eq_true shape) fun _ l _ clean => by
    split <;> simp [clean, notBadLane_putLane]

theorem flushProfile_checks (shape : shapeOk .flushProfile c.req.payload) : ChecksLane flushProfileAction c :=
  checksLane_of_changing (fun _ => rfl) (lengthIs_eq_true shape) fun _ _ _ clean => comesToOther_ok.2 (notBadLane_putLane clean)

theorem claim_checks (shape : shapeOk .claim c.req.payload) : ChecksLane claimAction c := by
  refine checksLane_of_changing (fun _ => rfl) (lengthIs_eq_true shape) fun i l u clean => ?_
  cases l.claim with
  | some k => simp [clean]
  | none => dsimp only; split <;> simp [clean, notBadLane_putLane]

theorem release_checks (shape : shapeOk .release c.req.payload) : ChecksLane releaseAction c :=
  checksLane_of_changing (fun _ => rfl) (lengthIs_eq_true shape) fun _ _ _ clean => comesToOther_ok.2 (notBadLane_putLane clean)

/-- Every request that addresses a lane checks its lane field at step 3 (R154). -/
theorem laneRow_checks : ∀ row ∈ laneRows, shapeOk row c.req.payload → ChecksLane (actionOf row) c := by
  simp only [laneRows, List.forall_mem_cons]
  exact ⟨defineLane_checks, amendLane_checks, pinLane_checks, retireLane_checks, readLane_checks, start_checks, stop_checks,
    hold_checks, resume_checks, setPoint_checks, setSource_checks, setRatio_checks, clearTrip_checks, appendSegment_checks,
    runProfile_checks, pauseProfile_checks, flushProfile_checks, readProfile_checks, claim_checks, release_checks,
    fun _ h => absurd h List.not_mem_nil⟩

end

/-! ## A request that names no lane, whatever its key -/

/-- The same request with another key. -/
def rekey (c : Ctx) (key : Half) : Ctx := { c with req := { c.req with key := key } }

@[simp] theorem rekey_payload (c : Ctx) (key : Half) : (rekey c key).req.payload = c.req.payload := rfl

@[simp] theorem rekey_port (c : Ctx) (key : Half) : (rekey c key).port = c.port := rfl

/-- A rewrite of a port that reaches neither a slot nor the strikes nor the BARRED flag, and turns on no slot. -/
structure OffSlots (f : Port → Port) : Prop where
  setSlot : ∀ (p : Port) (k : SlotId) (x : Slot), f (p.setSlot k x) = (f p).setSlot k x
  strikes : ∀ p, (f p).strikes = p.strikes
  barred : ∀ p, (f p).barred = p.barred

theorem offSlots_id : OffSlots id := ⟨fun _ _ _ => rfl, fun _ => rfl, fun _ => rfl⟩

/-- Whatever the key, the request is answered with this result and payload, after this rewrite of its port. -/
structure KeylessAnswer (act : Request.Action) (s : State) (c : Ctx) (r : Result) (payload : List Byte) (f : Port → Port) : Prop where
  offSlots : OffSlots f
  event : ∀ key, afterRequest act s (rekey c key)
    = ((s.takeRequest (rekey c key)).modPort c.port f).modPort c.port (·.answer c.slot r payload)

section
variable {act : Request.Action} {s : State} {c : Ctx}

theorem keyless_of_ok {payload : List Byte} {f : Port → Port} (offSlots : OffSlots f)
    (comes : ∀ key, act (rekey c key) (s.takeRequest (rekey c key)) = (.ok payload, (s.takeRequest (rekey c key)).modPort c.port f)) :
    KeylessAnswer act s c .ok payload f :=
  ⟨offSlots, fun key => by rw [afterRequest, comes]; rfl⟩

theorem keyless_of_read {payload : List Byte}
    (comes : ∀ key, act (rekey c key) (s.takeRequest (rekey c key)) = (.ok payload, s.takeRequest (rekey c key))) :
    KeylessAnswer act s c .ok payload id :=
  keyless_of_ok offSlots_id fun key => by rw [comes, State.modPort_id]

theorem keyless_of_refuse {r : Result}
    (comes : ∀ key, act (rekey c key) (s.takeRequest (rekey c key)) = (.refuse r, s.takeRequest (rekey c key))) :
    KeylessAnswer act s c r [] id :=
  ⟨offSlots_id, fun key => by rw [afterRequest, comes, State.modPort_id]; rfl⟩

/-- A request answered whatever its key reaches nothing but its own port. -/
theorem onlyAnswered_of_keyless {r : Result} {payload : List Byte} {f : Port → Port} (keyless : KeylessAnswer act s c r payload f) :
    OnlyAnswered s (afterRequest act s c) c (f (s.port c.port)) r payload := by
  have event := keyless.event c.req.key
  change afterRequest act s c = _ at event
  rw [event]
  exact onlyAnswered_take s c f _ r payload (keyless.offSlots.setSlot _ _ _)

theorem setSlot_setSlot (p : Port) (k : SlotId) (x y : Slot) : (p.setSlot k x).setSlot k y = p.setSlot k y := by
  simp [Port.setSlot]

/-- The answer overwrites the slot, and the key with it. -/
theorem answer_setSlot_executing (p : Port) (k : SlotId) (q : Request) (key : Half) (lapsed : Bool) (r : Result) (payload : List Byte) :
    (p.setSlot k (.executing { q with key := key } lapsed)).answer k r payload
      = (p.setSlot k (.executing q lapsed)).answer k r payload := by
  rw [Port.answer_executing _ _ { q with key := key } lapsed _ _ (Port.slots_setSlot_self p k _),
    Port.answer_executing _ _ q lapsed _ _ (Port.slots_setSlot_self p k _), setSlot_setSlot, setSlot_setSlot]
  rfl

theorem modPort_modPort (t : State) (p : PortId) (f g : Port → Port) : (t.modPort p f).modPort p g = t.modPort p (fun q => g (f q)) := by
  cases p <;> rfl

/-- A request answered whatever its key leaves the same state whatever its key. -/
theorem afterRequest_rekey {r : Result} {payload : List Byte} {f : Port → Port} (keyless : KeylessAnswer act s c r payload f)
    (key : Half) : afterRequest act s (rekey c key) = afterRequest act s c := by
  have taken : ∀ d : Half, afterRequest act s (rekey c d)
      = { s.modPort c.port (fun q => ((f q).setSlot c.slot (.executing c.req c.lapsed)).answer c.slot r payload) with
          lastServed := c.port } := by
    intro d
    have rewrite : ∀ q : Port, (f (q.setSlot c.slot (.executing { c.req with key := d } c.lapsed))).answer c.slot r payload
        = ((f q).setSlot c.slot (.executing c.req c.lapsed)).answer c.slot r payload := fun q => by
      rw [keyless.offSlots.setSlot, answer_setSlot_executing]
    rw [keyless.event, modPort_modPort]
    simp only [← rewrite]
    unfold State.takeRequest rekey
    cases c.port <;> rfl
  rw [taken key]
  exact (taken c.req.key).symm

end

/-! ## The same request, QUEUED with another key (R151) -/

theorem firstQueued_of_slots {p : Port} {k : SlotId} {q : Request} {f : Bool} {before after : List SlotId}
    (order : p.order = before ++ k :: after) (slot : p.slots[k] = .queued q f)
    (none_before : ∀ j ∈ before, ∀ q f, p.slots[j] ≠ .queued q f) : p.firstQueued = some (k, q, f) := by
  unfold Port.firstQueued
  rw [List.findSome?_eq_some_iff]
  refine ⟨before, k, after, order, by rw [slot], fun j hj => ?_⟩
  have other := none_before j hj
  split <;> simp_all

/-- The slot that the arbiter chooses may hold any request. -/
theorem firstQueued_setSlot {p : Port} {k : SlotId} {q : Request} {f : Bool} (h : p.firstQueued = some (k, q, f)) (q' : Request) :
    (p.setSlot k (.queued q' f)).firstQueued = some (k, q', f) := by
  obtain ⟨slot, before, after, order, none_before⟩ := Port.firstQueued_spec h
  refine firstQueued_of_slots order (Port.slots_setSlot_self p k _) fun j hj q'' f' => ?_
  have ne : j ≠ k := fun e => none_before j hj q f (e ▸ slot)
  rw [Port.slots_setSlot, if_neg ne]
  exact none_before j hj q'' f'

/-- The state in which the chosen request is QUEUED with another key. -/
def rekeyed (s : State) (c : Ctx) (key : Half) : State :=
  s.modPort c.port fun p => p.setSlot c.slot (.queued { c.req with key := key } c.lapsed)

theorem queuedAt_rekeyed_other {s : State} {c : Ctx} {p : PortId} (ne : p ≠ c.port) (key : Half) :
    (rekeyed s c key).queuedAt p = s.queuedAt p := by
  unfold State.queuedAt rekeyed
  rw [State.port_modPort_of_ne _ _ ne]

theorem queuedAt_rekeyed_self {s : State} {c : Ctx} (chosen : s.choice = some c) (key : Half) :
    (rekeyed s c key).queuedAt c.port = some (rekey c key) := by
  unfold State.queuedAt rekeyed
  rw [State.port_modPort_self, firstQueued_setSlot (State.choice_spec chosen)]
  rfl

theorem port_of_queuedAt {s : State} {c : Ctx} {p : PortId} (found : s.queuedAt p = some c) : c.port = p := by
  obtain ⟨x, -, rfl⟩ := Option.map_eq_some_iff.1 found
  rfl

theorem choice_rekeyed {s : State} {c : Ctx} (chosen : s.choice = some c) (key : Half) :
    (rekeyed s c key).choice = some (rekey c key) := by
  have self := queuedAt_rekeyed_self chosen key
  have served : (rekeyed s c key).lastServed = s.lastServed := State.modPort_lastServed s _ _
  unfold State.choice at chosen ⊢
  rw [served]
  by_cases turn : c.port = otherPort s.lastServed
  · rw [← turn, self]
  · have last : c.port = s.lastServed := by
      revert turn
      cases c.port <;> cases s.lastServed <;> simp [otherPort]
    rw [queuedAt_rekeyed_other (Ne.symm turn), ← last, self]
    split at chosen
    · next d found =>
      cases chosen
      exact absurd (port_of_queuedAt found) turn
    · next found => rw [last, found]

theorem takeRequest_rekeyed (s : State) (c : Ctx) (key : Half) :
    (rekeyed s c key).takeRequest (rekey c key) = s.takeRequest (rekey c key) := by
  simp only [State.takeRequest, rekeyed, rekey, modPort_modPort, setSlot_setSlot]

theorem afterRequest_rekeyed (act : Request.Action) (s : State) (c : Ctx) (key : Half) :
    afterRequest act (rekeyed s c key) (rekey c key) = afterRequest act s (rekey c key) := by
  rw [afterRequest, takeRequest_rekeyed, ← afterRequest]

theorem serves_rekeyed {s : State} {c : Ctx} {row : Instr} (serves : Serves s c row) (key : Half) :
    Serves (rekeyed s c key) (rekey c key) row :=
  ⟨(State.modPort_held s _ _).trans serves.running, choice_rekeyed serves.chosen key, serves.code⟩

/-! ## Step 3 of a request that names no lane -/

/-- Whatever the key, the request comes to one answer, and to one that no step from 3 to 7 gives (R153). -/
def PassesKeyless (act : Request.Action) (s : State) (c : Ctx) : Prop :=
  ∃ r payload f, r ∈ [Result.ok, .badField, .noLane] ∧ KeylessAnswer act s c r payload f

/-- Step 3 of a request that names no lane, step 2 passed: any lane field but 255 is refused, and with 255 the request goes on without
steps 4 to 7. -/
structure ChecksNoLane (act : Request.Action) (s : State) (c : Ctx) : Prop where
  refuses : c.req.lane ≠ 255#8 → KeylessAnswer act s c .badLane [] id
  passes : c.req.lane = 255#8 → PassesKeyless act s c

section
variable {s : State} {c : Ctx}

theorem checksNoLane_of_laneless {act : Request.Action} {test : Ctx → Bool} {rest : Ctx → State → Answer × State}
    (form : ∀ d t, act d t = laneless d (test d) t (rest d t)) (shape : ∀ key, test (rekey c key) = true)
    (passes : PassesKeyless rest s c) : ChecksNoLane act s c := by
  constructor
  case refuses =>
    exact fun lane => keyless_of_refuse fun key => by rw [form, shape, laneless_of_lane_ne (c := rekey c key) lane]
  case passes =>
    obtain ⟨r, payload, f, result, offSlots, event⟩ := passes
    refine fun lane => ⟨r, payload, f, result, offSlots, fun key => ?_⟩
    rw [← event key, afterRequest, afterRequest, form, shape, laneless_of_lane_eq (c := rekey c key) lane]

/-- Taking a request reaches no attention set. -/
theorem attn_takeRequest (d : Ctx) : ((s.takeRequest d).port d.port).attn = (s.port d.port).attn := by
  rw [State.takeRequest_port_self, Port.setSlot_attn]

theorem attn_takeRequest_rekey (key : Half) : ((s.takeRequest (rekey c key)).port c.port).attn = (s.port c.port).attn :=
  attn_takeRequest (rekey c key)

theorem findDrive_checks (shape : shapeOk .findDrive c.req.payload) : ChecksNoLane findDriveAction s c := by
  refine checksNoLane_of_laneless (fun _ _ => rfl) (fun _ => lengthIs_eq_true shape) ?_
  by_cases range : (byteAt c.req.payload 0).toNat < 1 ∨ 31 < (byteAt c.req.payload 0).toNat
  · exact ⟨.badField, [], id, by decide, keyless_of_refuse fun key => if_pos range⟩
  · have same : ∀ key a, (s.takeRequest (rekey c key)).findDrive a = s.findDrive a := fun key a => by simp [State.findDrive]
    cases found : s.findDrive (byteAt c.req.payload 0).toNat with
    | none =>
      exact ⟨.noLane, [], id, by decide, keyless_of_refuse fun key => by
        simp only [rekey_payload, if_neg range, same, found]⟩
    | some i =>
      exact ⟨.ok, [byteOf i.val], id, by decide, keyless_of_read fun key => by
        simp only [rekey_payload, if_neg range, same, found]⟩

theorem listLanes_checks (shape : shapeOk .listLanes c.req.payload) : ChecksNoLane listLanesAction s c :=
  checksNoLane_of_laneless (fun _ _ => rfl) (fun _ => lengthIs_eq_true shape)
    ⟨.ok, allLanes.map fun i => byteOf (stateCode (s.lane i)), id, by decide, keyless_of_read fun key => by simp⟩

theorem setLease_checks (shape : shapeOk .setLease c.req.payload) : ChecksNoLane setLeaseAction s c :=
  checksNoLane_of_laneless (fun _ _ => rfl) (fun _ => lengthIs_eq_true shape)
    ⟨.ok, [], fun p => { p with lease := p.lease.setPeriod (byteAt c.req.payload 0).toNat }, by decide,
      keyless_of_ok ⟨fun _ _ _ => rfl, fun _ => rfl, fun _ => rfl⟩ fun _ => rfl⟩

theorem setAttentionMask_checks (shape : shapeOk .setAttentionMask c.req.payload) : ChecksNoLane setAttentionMaskAction s c := by
  refine checksNoLane_of_laneless (fun _ _ => rfl) (fun _ => maskShape_of shape.1 shape.2)
    ⟨.ok, [byteOf ((s.port c.port).attn.keep (BitVec.ofNat 10 (u16At c.req.payload 0))).count],
      Port.setMask (BitVec.ofNat 10 (u16At c.req.payload 0)), by decide,
      keyless_of_ok ⟨fun _ _ _ => rfl, fun _ => rfl, fun _ => rfl⟩ fun key => ?_⟩
  simp only [rekey_payload, rekey_port, State.port_modPort_self, Port.setMask, attn_takeRequest_rekey]

theorem readAttention_checks (shape : shapeOk .readAttention c.req.payload) : ChecksNoLane readAttentionAction s c :=
  checksNoLane_of_laneless (fun _ _ => rfl) (fun _ => lengthIs_eq_true shape)
    ⟨.ok, (s.port c.port).attn.view, id, by decide, keyless_of_read fun key => by rw [attn_takeRequest]; rfl⟩

theorem ackAttention_checks (shape : shapeOk .ackAttention c.req.payload) : ChecksNoLane ackAttentionAction s c := by
  refine checksNoLane_of_laneless (fun _ _ => rfl) (fun _ => ackShape_of shape) ?_
  by_cases pairs : (!(ackPairs c.req.payload).all fun x => pairOk x.1 x.2) = true
  · exact ⟨.badField, [], id, by decide, keyless_of_refuse fun key => if_pos pairs⟩
  · generalize after : (s.port c.port).attn.ackAll (ackPairs c.req.payload) = left
    refine ⟨.ok, [byteOf ((s.port c.port).attn.count - left.count), byteOf left.count], fun p => { p with attn := left }, by decide,
      keyless_of_ok ⟨fun _ _ _ => rfl, fun _ => rfl, fun _ => rfl⟩ fun key => ?_⟩
    simp only [rekey_payload, rekey_port, if_neg pairs, attn_takeRequest_rekey, after]

theorem deviceBytes_takeRequest (d : Ctx) :
    (s.takeRequest d).portS.deviceBytes = s.portS.deviceBytes ∧ (s.takeRequest d).portU.deviceBytes = s.portU.deviceBytes := by
  unfold State.takeRequest
  cases d.port <;> exact ⟨rfl, rfl⟩

theorem readDevice_checks (shape : shapeOk .readDevice c.req.payload) : ChecksNoLane readDeviceAction s c :=
  checksNoLane_of_laneless (fun _ _ => rfl) (fun _ => lengthIs_eq_true shape)
    ⟨.ok, _, id, by decide, keyless_of_read fun key => by
      rw [(deviceBytes_takeRequest _).1, (deviceBytes_takeRequest _).2, State.takeRequest_poolFree, State.takeRequest_haltLevel]⟩

theorem nop_checks (shape : shapeOk .nop c.req.payload) : ChecksNoLane nopAction s c :=
  checksNoLane_of_laneless (fun _ _ => rfl) (fun _ => lengthIs_eq_true shape)
    ⟨.ok, [], id, by decide, keyless_of_read fun _ => rfl⟩

/-- Every request that names no lane checks that at step 3 and skips steps 4 to 7 (R154). -/
theorem deviceRow_checks : ∀ row ∈ deviceRows, shapeOk row c.req.payload → ChecksNoLane (actionOf row) s c := by
  simp only [deviceRows, List.forall_mem_cons]
  exact ⟨findDrive_checks, listLanes_checks, setLease_checks, setAttentionMask_checks, readAttention_checks, ackAttention_checks,
    readDevice_checks, nop_checks, fun _ h => absurd h List.not_mem_nil⟩

end

/-! ## Step 3 by the kind of request -/

theorem lane_eq_255_iff {b : Byte} : b.toNat = 255 ↔ b = 255#8 := (BitVec.toNat_inj (y := 255#8))

/-- A request that addresses a lane, with a lane field above 23. -/
theorem laneRow_refuses {row : Instr} {s : State} {c : Ctx} (shape : shapeOk row c.req.payload) (request : row ∈ laneRows)
    (lane : 24 ≤ c.req.lane.toNat) : OnlyAnswered s (afterRequest (actionOf row) s c) c (s.port c.port) .badLane [] :=
  onlyAnswered_of_refuse_plain ((laneRow_checks row request shape).refuses (laneOf_eq_none_iff.2 lane) _)

/-- A request that addresses a lane, with a lane field of 0 to 23. -/
theorem laneRow_passes {row : Instr} {s : State} {c : Ctx} (shape : shapeOk row c.req.payload) (request : row ∈ laneRows)
    (lane : c.req.lane.toNat < 24) : NotBadLane c (afterRequest (actionOf row) s c) :=
  notBadLane_finish <| (laneRow_checks row request shape).passes ⟨_, lane⟩ (laneOf_eq_some_iff.2 rfl) _ (notBadLane_takeRequest s c)

/-- A request that names no lane, with another lane field than 255. -/
theorem deviceRow_refuses {row : Instr} {s : State} {c : Ctx} (shape : shapeOk row c.req.payload) (request : row ∈ deviceRows)
    (lane : c.req.lane.toNat ≠ 255) : OnlyAnswered s (afterRequest (actionOf row) s c) c (s.port c.port) .badLane [] :=
  onlyAnswered_of_keyless ((deviceRow_checks row request shape).refuses fun e => lane (lane_eq_255_iff.2 e))

/-- A request that names no lane, with the lane field 255. -/
theorem deviceRow_passes {row : Instr} {s : State} {c : Ctx} (shape : shapeOk row c.req.payload) (request : row ∈ deviceRows)
    (lane : c.req.lane.toNat = 255) : NotBadLane c (afterRequest (actionOf row) s c) := by
  obtain ⟨r, payload, f, result, keyless⟩ := (deviceRow_checks row request shape).passes (lane_eq_255_iff.1 lane)
  intro x holds
  rw [(onlyAnswered_of_keyless keyless).answered.slot] at holds
  cases holds
  rintro (rfl : r = .badLane)
  exact absurd result (by decide)

/-- A request that names no lane, with any lane field, comes to one answer whatever its key. -/
theorem deviceRow_keyless {row : Instr} (s : State) {c : Ctx} (shape : shapeOk row c.req.payload) (request : row ∈ deviceRows) :
    ∃ r payload f, r ∈ [Result.badLane, .ok, .badField, .noLane] ∧ KeylessAnswer (actionOf row) s c r payload f := by
  have checks := deviceRow_checks (s := s) row request shape
  by_cases lane : c.req.lane = 255#8
  · obtain ⟨r, payload, f, result, keyless⟩ := checks.passes lane
    exact ⟨r, payload, f, List.mem_cons_of_mem _ result, keyless⟩
  · exact ⟨.badLane, [], id, List.mem_cons_self, checks.refuses lane⟩

/-- A request that names no lane ends in the same state with any key. -/
theorem exec_rekeyed {row : Instr} {s : State} {c : Ctx} (serves : Serves s c row) (shape : shapeOk row c.req.payload)
    (device : row ∈ deviceRows) (key : Half) : exec row (rekeyed s c key) = exec row s := by
  have request : row ∈ laneRows ++ deviceRows := List.mem_append_right _ device
  obtain ⟨r, payload, f, -, keyless⟩ := deviceRow_keyless s shape device
  rw [exec_request request (serves_rekeyed serves key), exec_request request serves, afterRequest_rekeyed,
    afterRequest_rekey keyless]

/-! ## A request with a key from a BARRED port -/

/-- A READ_DEVICE in slot 0 of port S. -/
def readingDevice : Ctx :=
  { port := .s, slot := 0, lapsed := false, req := { seq := 1, code := 0x53, lane := 255, key := 0, payload := [], crc := 9 } }

/-- Port S is BARRED, with that request QUEUED. -/
def barredAsking : State :=
  State.reset.modPort .s fun p => { p.setSlot 0 (.queued readingDevice.req false) with order := [0], strikes := 5, barred := true }

/-- The BARRED port is answered OK with its strikes as they were, and a key makes no difference. -/
theorem barred_port_witness : ∃ t, exec .readDevice barredAsking = .next t
    ∧ exec .readDevice (rekeyed barredAsking readingDevice 0xBEEF) = .next t ∧ t.portS.strikes = 5 ∧ t.portS.barred = true
    ∧ t.portS.slots[0] = .answered { seq := 1, code := 0x53, result := .ok, lapsed := false, duplicate := false
                                     payload := [0x21#8, 64#8, 0#8, 22#8, 0#8, 0#8, 0#8] } := by
  have serves : Serves barredAsking readingDevice .readDevice := ⟨rfl, by decide +kernel, by decide⟩
  have event := exec_request (List.mem_append_right _ (by decide)) serves
  exact ⟨_, event, (exec_rekeyed serves rfl (by decide) 0xBEEF).trans event, by decide +kernel⟩

/-! ## The statement -/

/-- Settles O16: step 3 by the kind of request, and for one that names no lane the answer and the state that its key cannot change. -/
theorem laneFieldIsChecked : Obligations.LaneFieldIsChecked := by
  refine ⟨fun b i => laneOf_eq_some_iff, fun row s c serves shape => ⟨?lane, ?device, ?right, ?keyless⟩⟩
  case lane =>
    exact fun request lane => ⟨_, exec_request (List.mem_append_left _ request) serves, laneRow_refuses shape request lane⟩
  case device =>
    exact fun request lane => ⟨_, exec_request (List.mem_append_right _ request) serves, deviceRow_refuses shape request lane⟩
  case right =>
    intro laneField deviceField request
    refine ⟨_, exec_request request serves, ?_⟩
    obtain lane | device := List.mem_append.1 request
    · exact laneRow_passes shape lane (laneField lane)
    · exact deviceRow_passes shape device (deviceField device)
  case keyless =>
    intro device
    have request : row ∈ laneRows ++ deviceRows := List.mem_append_right _ device
    obtain ⟨r, payload, f, result, keyless⟩ := deviceRow_keyless s shape device
    have answered := (onlyAnswered_of_keyless keyless).answered
    have unkeyed : ∀ r ∈ [Result.badLane, .ok, .badField, .noLane], r ∉ [Result.barred, .owned, .key, .laneBusy] := by decide
    refine ⟨⟨_, exec_request request serves, ?_, ?_, _, answered.slot, unkeyed r result⟩, exec_rekeyed serves shape device⟩
    · rw [answered.strikes, keyless.offSlots.strikes]
    · rw [answered.barred, keyless.offSlots.barred]

end Sys2Proof.LaneFields
end

section
/-! PROOF. What a report does to a port's attention set (R182, R184), and the attention output that follows the set (R185). -/

namespace Sys2Proof.AttentionSets

open Sys2Proof.Machine Sys2Proof.Safety

/-! ## One entry, present or not -/

theorem length_ite_singleton (b : Bool) (e : List Byte) : (if b then [e] else []).length = b.toNat := by cases b <;> rfl

/-- The count of an entry that a report makes or finds present (R184). -/
theorem toNat_true_eq (b : Bool) : true.toNat = b.toNat + if b then 0 else 1 := by cases b <;> rfl

/-! ## The entries of one lane (R182) -/

/-- A lane with no entry of any kind is the empty one. -/
theorem eq_empty_iff {a : LaneAttn} : a = LaneAttn.empty ↔ ∀ r, holdsKind a r = false := by
  constructor
  · rintro rfl r
    cases r <;> rfl
  · intro absent
    obtain ⟨segmentDone, profileEmpty, locked, stopped, tripped, resumed, linkLost, claimDropped⟩ := a
    have segment : segmentDone = none := Option.not_isSome_iff_eq_none.1 (Bool.eq_false_iff.1 (absent (.segmentDone 0)))
    have trip : tripped = none := Option.not_isSome_iff_eq_none.1 (Bool.eq_false_iff.1 (absent (.tripped .drive 0)))
    rw [LaneAttn.empty, LaneAttn.mk.injEq]
    exact ⟨segment, absent .profileEmpty, absent .locked, absent .stopped, trip, absent .resumed, absent .linkLost,
      absent .claimDropped⟩

theorem laneEntries_eq_nil_iff {i : LaneId} {a : LaneAttn} : laneEntries i a = [] ↔ a = LaneAttn.empty := by
  obtain ⟨segmentDone, profileEmpty, locked, stopped, tripped, resumed, linkLost, claimDropped⟩ := a
  cases segmentDone <;> cases tripped <;> simp [laneEntries, LaneAttn.empty]

/-- Each kind gives at most one entry (R182). -/
theorem length_laneEntries (i : LaneId) (a : LaneAttn) : (laneEntries i a).length
    = a.segmentDone.isSome.toNat + a.profileEmpty.toNat + a.locked.toNat + a.stopped.toNat + a.tripped.isSome.toNat
      + a.resumed.toNat + a.linkLost.toNat + a.claimDropped.toNat := by
  simp only [laneEntries, List.length_append, length_ite_singleton]
  cases a.segmentDone <;> cases a.tripped <;> rfl

/-- The model counts a lane's entries as the statements list them. -/
theorem length_entries (i : LaneId) (a : LaneAttn) : (a.entries i.val).length = (laneEntries i a).length := by
  simp only [LaneAttn.entries, entryBytes, List.length_append, length_ite_singleton, length_laneEntries]

/-! ## A report that a lane's entries take (R184) -/

theorem holdsKind_take (a : LaneAttn) (r : LaneReport) : holdsKind (a.take r) r = true := by
  cases r <;> rfl

theorem take_segmentDone (a : LaneAttn) (tag : Byte) :
    a.take (.segmentDone tag) = { a with segmentDone := some (tag, decide (a.segmentDone ≠ none)) } := by
  cases h : a.segmentDone <;> simp [LaneAttn.take, h]

/-- A report of a kind that is not present adds one entry, and a refresh none (R184). -/
theorem length_laneEntries_take (i : LaneId) (a : LaneAttn) (r : LaneReport) :
    (laneEntries i (a.take r)).length = (laneEntries i a).length + if holdsKind a r then 0 else 1 := by
  have present := toNat_true_eq (holdsKind a r)
  rw [length_laneEntries, length_laneEntries]
  cases r <;> simp only [LaneAttn.take, holdsKind, Option.isSome_some] at present ⊢ <;> omega

/-! ## The entries of a set (R182, R186) -/

theorem length_setEntries (a : AttnSet) : (setEntries a).length = a.lapsed.toNat + a.overrun.toNat
    + ((List.finRange 24).map fun i => (laneEntries i a.lanes[i]).length).sum := by
  simp only [setEntries, List.length_append, length_ite_singleton, List.length_flatMap]

theorem count_eq_length_setEntries (a : AttnSet) : a.count = (setEntries a).length := by
  have all : allLanes = List.finRange 24 := by decide
  simp only [AttnSet.count, AttnSet.entries, entryBytes, List.length_append, length_ite_singleton, List.length_flatMap,
    length_entries, length_setEntries, all]

/-- The set grows and shrinks with the entries of the one lane that is rewritten. -/
theorem length_setEntries_onLane (a : AttnSet) (i : LaneId) (f : LaneAttn → LaneAttn) :
    (setEntries (a.onLane i f)).length + (laneEntries i a.lanes[i]).length
      = (setEntries a).length + (laneEntries i (f a.lanes[i])).length := by
  have moved := sum_map_set (List.finRange 24) (List.nodup_finRange 24) (fun j => (laneEntries j (a.onLane i f).lanes[j]).length)
    (fun j => (laneEntries j a.lanes[j]).length) i (List.mem_finRange i) (fun j other => by rw [AttnSet.lanes_onLane, if_neg other])
  have self : (a.onLane i f).lanes[i] = f a.lanes[i] := by rw [AttnSet.lanes_onLane, if_pos rfl]
  simp only [self] at moved
  rw [length_setEntries, length_setEntries]
  change a.lapsed.toNat + a.overrun.toNat + _ + _ = _
  omega

theorem setEntries_eq_nil_iff {a : AttnSet} :
    setEntries a = [] ↔ a.lapsed = false ∧ a.overrun = false ∧ ∀ i : LaneId, a.lanes[i] = LaneAttn.empty := by
  simp [setEntries, laneEntries_eq_nil_iff]

/-! ## The attention output (R185) -/

theorem attnAsserted_iff (p : Port) : p.attnAsserted = true ↔ p.attn.lapsed = true ∨ p.attn.overrun = true
    ∨ ∃ (i : LaneId) (r : LaneReport), holdsKind p.attn.lanes[i] r = true := by
  have nonempty : p.attnAsserted = true ↔ ¬ setEntries p.attn = [] := by
    rw [Port.attnAsserted, count_eq_length_setEntries, bne_iff_ne, ne_eq, List.length_eq_zero_iff]
  rw [nonempty, setEntries_eq_nil_iff]
  simp only [eq_empty_iff, not_and_or, not_forall, Bool.not_eq_false]

/-! ## A report that a port's set takes (R183, R184) -/

theorem takeLane_of_masked {p : Port} {r : LaneReport} (masked : p.mask.getLsbD r.kind = false) (i : LaneId) :
    p.takeLane i r = p := if_neg (Bool.eq_false_iff.1 masked)

theorem takeLane_of_enabled {p : Port} {r : LaneReport} (enabled : p.mask.getLsbD r.kind = true) (i : LaneId) :
    p.takeLane i r = { p with attn := p.attn.onLane i (·.take r) } := if_pos enabled

theorem takeLapsed_of_masked {p : Port} (masked : p.mask.getLsbD 8 = false) : p.takeLapsed = p :=
  if_neg (Bool.eq_false_iff.1 masked)

theorem takeLapsed_of_enabled {p : Port} (enabled : p.mask.getLsbD 8 = true) :
    p.takeLapsed = { p with attn := { p.attn with lapsed := true } } := if_pos enabled

theorem takeOverrun_of_masked {p : Port} (masked : p.mask.getLsbD 9 = false) : p.takeOverrun = p :=
  if_neg (Bool.eq_false_iff.1 masked)

theorem takeOverrun_of_enabled {p : Port} (enabled : p.mask.getLsbD 9 = true) :
    p.takeOverrun = { p with attn := { p.attn with overrun := true } } := if_pos enabled

/-- Writing a port's attention set changes nothing else of the port. -/
theorem portButSet_attn (p : Port) (a : AttnSet) : PortButSet p { p with attn := a } a :=
  ⟨rfl, rfl, rfl, rfl, rfl, rfl, rfl, rfl, rfl⟩

theorem length_setEntries_take (a : AttnSet) (i : LaneId) (r : LaneReport) :
    (setEntries (a.onLane i (·.take r))).length = (setEntries a).length + if holdsKind a.lanes[i] r then 0 else 1 := by
  have inSet := length_setEntries_onLane a i (·.take r)
  have inLane := length_laneEntries_take i a.lanes[i] r
  omega

theorem length_setEntries_lapsed (a : AttnSet) :
    (setEntries { a with lapsed := true }).length = (setEntries a).length + if a.lapsed then 0 else 1 := by
  simp only [length_setEntries, toNat_true_eq a.lapsed]
  omega

theorem length_setEntries_overrun (a : AttnSet) :
    (setEntries { a with overrun := true }).length = (setEntries a).length + if a.overrun then 0 else 1 := by
  simp only [length_setEntries, toNat_true_eq a.overrun]
  omega

theorem attnAsserted_of_holdsKind {p : Port} {i : LaneId} {r : LaneReport} (holds : holdsKind p.attn.lanes[i] r = true) :
    p.attnAsserted = true :=
  (attnAsserted_iff p).2 (.inr (.inr ⟨i, r, holds⟩))

theorem attnAsserted_of_lapsed {p : Port} (lapsed : p.attn.lapsed = true) : p.attnAsserted = true :=
  (attnAsserted_iff p).2 (.inl lapsed)

theorem attnAsserted_of_overrun {p : Port} (overrun : p.attn.overrun = true) : p.attnAsserted = true :=
  (attnAsserted_iff p).2 (.inr (.inl overrun))

/-! ## The statement -/

/-- Settles O40: the table of R184 by kind, then the entry, the count and the output for a lane kind and for each port kind. -/
theorem reportMakesOrRefreshesEntry : Obligations.ReportMakesOrRefreshesEntry := by
  refine ⟨fun a => ⟨take_segmentDone a, fun _ _ => rfl, rfl, rfl, rfl, rfl, rfl, rfl⟩,
    ⟨fun _ => rfl, rfl, rfl, rfl, fun _ _ => rfl, rfl, rfl, rfl⟩, attnAsserted_iff,
    fun p i r => ⟨(takeLane_of_masked · i), ?laneKind⟩,
    fun p => ⟨takeLapsed_of_masked, takeOverrun_of_masked, ?lapsed, ?overrun⟩,
    fun s i r p _ => State.port_report s i r p,
    fun a i f => ⟨rfl, rfl, fun j => AttnSet.lanes_onLane a i j f⟩⟩
  case laneKind =>
    intro enabled
    rw [takeLane_of_enabled enabled]
    have self : (p.attn.onLane i (·.take r)).lanes[i] = p.attn.lanes[i].take r := by rw [AttnSet.lanes_onLane, if_pos rfl]
    have asserted : Port.attnAsserted { p with attn := p.attn.onLane i (·.take r) } = true :=
      attnAsserted_of_holdsKind (i := i) (r := r) (by rw [self, holdsKind_take])
    exact ⟨portButSet_attn p _, self, fun j other => by rw [AttnSet.lanes_onLane, if_neg other], rfl, rfl,
      length_setEntries_take p.attn i r, asserted, fun holds => asserted.trans (attnAsserted_of_holdsKind holds).symm⟩
  case lapsed =>
    intro enabled
    rw [takeLapsed_of_enabled enabled]
    have asserted : Port.attnAsserted { p with attn := { p.attn with lapsed := true } } = true := attnAsserted_of_lapsed rfl
    exact ⟨portButSet_attn p _, length_setEntries_lapsed p.attn, asserted,
      fun lapsed => asserted.trans (attnAsserted_of_lapsed lapsed).symm⟩
  case overrun =>
    intro enabled
    rw [takeOverrun_of_enabled enabled]
    have asserted : Port.attnAsserted { p with attn := { p.attn with overrun := true } } = true := attnAsserted_of_overrun rfl
    exact ⟨portButSet_attn p _, length_setEntries_overrun p.attn, asserted,
      fun overrun => asserted.trans (attnAsserted_of_overrun overrun).symm⟩

end Sys2Proof.AttentionSets
end

section
/-! PROOF. What one event can do to a lane record, each change said once with everything that the laws of the table read of it: the ranges
(R3, R51, R54, R75, R174), the drive address (R5), the parent (R79), the segments held (R52), and whether the lane is in service (R79). -/

namespace Sys2Proof.Records

open Sys2Proof.Machine Sys2Proof.Safety

/-! ## What a lawful record holds in each mode (R2) -/

theorem modeOk_active {l : Lane} {held : Option Int} {run : Run} (h : l.mode = .active held run) :
    ModeOk l ↔ l.timer.isSome ∧ l.driveType.isSome ∧ (∀ x, held = some x → inRange x) ∧ RunOk held l.queue run := by
  rw [ModeOk, h]

theorem modeOk_standby {l : Lane} (h : l.mode = .standby) :
    ModeOk l ↔ l.output = 0 ∧ l.track = .blending ∧ l.timer.isSome ∧ l.driveType.isSome := by
  rw [ModeOk, h]

theorem modeOk_stopping {l : Lane} {k : StopCause} (h : l.mode = .stopping k) :
    ModeOk l ↔ l.track = .blending ∧ l.queue = [] ∧ l.timer.isSome ∧ l.driveType.isSome := by
  rw [ModeOk, h]

theorem modeOk_tripped {l : Lane} {k : TripCause} {n : Nat} {r : Bool} {m : Option Marker} (h : l.mode = .tripped k n r m) :
    ModeOk l ↔ l.output = 0 ∧ l.track = .blending ∧ l.queue = [] ∧ l.timer.isSome ∧ l.driveType.isSome
      ∧ (k = .drive → 1 ≤ n ∧ n ≤ 63) ∧ (k ≠ .drive → n = 0) ∧ (k = .cascade → m = none) := by
  rw [ModeOk, h]

theorem modeOk_defining {l : Lane} {m : Marker} (h : l.mode = .defining m) :
    ModeOk l ↔ l.output = 0 ∧ l.track = .blending ∧ l.queue = [] ∧ l.claim = none ∧ l.view = none ∧ l.misses = 0
      ∧ l.timer = none ∧ l.driveType = none ∧ l.pinned = false := by
  rw [ModeOk, h]

theorem inRange_zero : inRange 0 := by unfold inRange; omega

theorem ruOk_iff {x : Int} : ruOk x = true ↔ inRange x := by simp [ruOk, inRange]

/-- A lane that is in service has its timer and its drive type, whatever else its mode holds (R2, R26). -/
theorem timer_isSome_of_service {l : Lane} (ok : LaneOk l) (h : ∀ m, l.mode ≠ .defining m) :
    l.timer.isSome ∧ l.driveType.isSome := by
  have mode := ok.mode
  cases hm : l.mode with
  | defining m => exact absurd hm (h m)
  | standby => rw [modeOk_standby hm] at mode; exact ⟨mode.2.2.1, mode.2.2.2⟩
  | active held run => rw [modeOk_active hm] at mode; exact ⟨mode.1, mode.2.1⟩
  | stopping k => rw [modeOk_stopping hm] at mode; exact ⟨mode.2.2.1, mode.2.2.2⟩
  | tripped k n r m => rw [modeOk_tripped hm] at mode; exact ⟨mode.2.2.2.1, mode.2.2.2.2.1⟩

/-- In a lane in service, the mode's law reads no more than these fields. -/
theorem modeOk_congr {l l' : Lane} (free : ∀ m, l.mode ≠ .defining m) (mode : l'.mode = l.mode) (output : l'.output = l.output)
    (track : l'.track = l.track) (queue : l'.queue = l.queue) (timer : l'.timer.isSome = l.timer.isSome)
    (driveType : l'.driveType = l.driveType) (ok : ModeOk l) : ModeOk l' := by
  unfold ModeOk at ok ⊢
  rw [mode]
  cases hm : l.mode with
  | defining m => exact absurd hm (free m)
  | standby | active | stopping | tripped => simpa [hm, output, track, queue, timer, driveType] using ok

/-! ## A record that replaces another -/

/-- A record that keeps what the laws of the table read: lawful if the old one was, at the same address, with the same parent, with no
segment more, and in service if the old one was. -/
structure Keeps (l l' : Lane) : Prop where
  ok : LaneOk l → LaneOk l'
  address : l'.cfg.address = l.cfg.address
  parent : l'.source.link.map (·.parent) = l.source.link.map (·.parent)
  queue : l'.queue.length ≤ l.queue.length
  service : (∀ m, l.mode ≠ .defining m) → ∀ m, l'.mode ≠ .defining m

theorem Keeps.refl (l : Lane) : Keeps l l := ⟨id, rfl, rfl, Nat.le_refl _, id⟩

theorem Keeps.trans {l l' l'' : Lane} (h : Keeps l l') (h' : Keeps l' l'') : Keeps l l'' :=
  ⟨fun ok => h'.ok (h.ok ok), h'.address.trans h.address, h'.parent.trans h.parent, Nat.le_trans h'.queue h.queue,
    fun s => h'.service (h.service s)⟩

/-- A change of the mode alone. -/
theorem keeps_mode {l : Lane} {m : Mode} (mode : LaneOk l → ModeOk { l with mode := m }) (service : ∀ k, m ≠ .defining k) :
    Keeps l { l with mode := m } :=
  ⟨fun ok => { ok with mode := mode ok }, rfl, rfl, Nat.le_refl _, fun _ => service⟩

/-! ### Requests -/

theorem keeps_enterStopping {l : Lane} {held : Option Int} {run : Run} (h : l.mode = .active held run) (c : StopCause) :
    Keeps l (l.enterStopping c) where
  ok ok := by
    obtain ⟨timer, driveType, -, -⟩ := (modeOk_active h).1 ok.mode
    exact { ok with queue := ⟨Nat.zero_le _, fun _ h => absurd h List.not_mem_nil⟩, mode := ⟨rfl, rfl, timer, driveType⟩ }
  address := rfl
  parent := rfl
  queue := Nat.zero_le _
  service _ _ h := by cases h

theorem keeps_takeHold (l : Lane) : Keeps l l.takeHold := by
  unfold Lane.takeHold
  split
  case h_1 run h =>
    refine keeps_mode (fun ok => ?_) nofun
    obtain ⟨timer, driveType, -, runOk⟩ := (modeOk_active h).1 ok.mode
    refine ⟨timer, driveType, fun x e => ?_, ?_⟩
    · cases e; exact ok.output
    · cases run with
      | idle => trivial
      | running v p => exact runOk.2
      | paused v p => exact runOk
  all_goals exact Keeps.refl l

theorem keeps_claim {l : Lane} {cl : Option Claim} (key : ∀ c, cl = some c → c.key ≠ 0#16)
    (free : ∀ m, l.mode ≠ .defining m) : Keeps l { l with claim := cl } where
  ok ok := { ok with key := key, mode := modeOk_congr free rfl rfl rfl rfl rfl rfl ok.mode }
  address := rfl
  parent := rfl
  queue := Nat.le_refl _
  service h := h

/-- A DEFINING lane has no claim to lose. -/
theorem keeps_release (l : Lane) : Keeps l { l with claim := none } where
  ok ok := by
    refine { ok with key := nofun, mode := ?_ }
    have mode := ok.mode
    unfold ModeOk at mode ⊢
    cases hm : l.mode <;> simp_all
  address := rfl
  parent := rfl
  queue := Nat.le_refl _
  service h := h

theorem keeps_pin {l : Lane} (free : ∀ m, l.mode ≠ .defining m) : Keeps l { l with pinned := true } where
  ok ok := { ok with mode := modeOk_congr free rfl rfl rfl rfl rfl rfl ok.mode }
  address := rfl
  parent := rfl
  queue := Nat.le_refl _
  service h := h

theorem keeps_setPoint {l : Lane} {x : Int} (range : inRange x) : Keeps l { l with setPoint := x } :=
  ⟨fun ok => { ok with setPoint := range, mode := ok.mode }, rfl, rfl, Nat.le_refl _, id⟩

/-- A new source of the same parent. -/
theorem keeps_source {l : Lane} {src : Source} (range : ∀ k, src = .follow k → LinkOk k)
    (parent : src.link.map (·.parent) = l.source.link.map (·.parent)) : Keeps l { l with source := src } :=
  ⟨fun ok => { ok with link := range, mode := ok.mode }, rfl, parent, Nat.le_refl _, id⟩

theorem keeps_resume {l : Lane} {x : Int} {run : Run} (h : l.mode = .active (some x) run) :
    Keeps l { l with mode := .active none run, track := .blending } where
  ok ok := by
    obtain ⟨timer, driveType, -, runOk⟩ := (modeOk_active h).1 ok.mode
    refine { ok with mode := ⟨timer, driveType, nofun, ?_⟩ }
    cases run with
    | idle => trivial
    | running v p => exact absurd runOk.1 (by simp)
    | paused v p => exact runOk
  address := rfl
  parent := rfl
  queue := Nat.le_refl _
  service _ _ h := by cases h

/-! ### Profiles (R51, R54, R58 to R66) -/

/-- A head just started has a progress of its own kind, in range (R61). -/
theorem progressOk_started {g : Segment} (ok : SegmentOk g) : ProgressOk g g.started := by
  obtain ⟨body, notify, tag⟩ := g
  cases body with
  | ramp e peak accel =>
    obtain ⟨-, peakLow, -, -⟩ := ok
    change 1 ≤ (if 1 ≤ accel ∧ accel ≤ peak then accel else peak) ∧ (if 1 ≤ accel ∧ accel ≤ peak then accel else peak) ≤ peak
    split <;> omega
  | dwell n => exact ⟨ok.1, Nat.le_refl _⟩

theorem runOk_firstRun {l : Lane} (ok : LaneOk l) : RunOk none l.queue l.firstRun := by
  unfold Lane.firstRun
  split
  · trivial
  · next g rest h => exact ⟨rfl, ok.output, g, rest, h, progressOk_started (ok.queue.2 g (h ▸ List.mem_cons_self))⟩

theorem keeps_start {l : Lane} (h : l.mode = .standby) (runProfile : Bool) : Keeps l (l.start runProfile) where
  ok ok := by
    obtain ⟨-, -, timer, driveType⟩ := (modeOk_standby h).1 ok.mode
    refine { ok with mode := ⟨timer, driveType, nofun, ?_⟩ }
    change RunOk none l.queue (if runProfile then l.firstRun else .idle)
    cases runProfile
    · trivial
    · exact runOk_firstRun ok
  address := rfl
  parent := rfl
  queue := Nat.le_refl _
  service _ _ h := by cases h

/-- A run that an ACTIVE lane takes with its held value kept. -/
theorem keeps_run {l : Lane} {held : Option Int} {run run' : Run} (h : l.mode = .active held run)
    (runs : LaneOk l → RunOk held l.queue run → RunOk held l.queue run') : Keeps l { l with mode := .active held run' } :=
  keeps_mode (fun ok => by
    obtain ⟨timer, driveType, heldOk, runOk⟩ := (modeOk_active h).1 ok.mode
    exact ⟨timer, driveType, heldOk, runs ok runOk⟩) nofun

theorem keeps_flush (l : Lane) : Keeps l l.flush := by
  have empty : ([] : List Segment).length ≤ 12 ∧ ∀ g ∈ ([] : List Segment), SegmentOk g :=
    ⟨Nat.zero_le _, fun _ h => absurd h List.not_mem_nil⟩
  have idle : ∀ {held run} (t : Track), l.mode = .active held run →
      Keeps l { l with queue := [], mode := .active held .idle, track := t } := fun t h =>
    ⟨fun ok => by
      obtain ⟨timer, driveType, heldOk, -⟩ := (modeOk_active h).1 ok.mode
      exact { ok with queue := empty, mode := ⟨timer, driveType, heldOk, trivial⟩ },
      rfl, rfl, Nat.zero_le _, nofun⟩
  have rest : (∀ held run, l.mode ≠ .active held run) → Keeps l { l with queue := [] } := fun free =>
    ⟨fun ok => by
      refine { ok with queue := empty, mode := ?_ }
      have mode := ok.mode
      unfold ModeOk at mode ⊢
      cases hm : l.mode with
      | active held run => exact absurd hm (free held run)
      | defining | standby | stopping | tripped => simp_all,
      rfl, rfl, Nat.zero_le _, id⟩
  unfold Lane.flush
  split
  case h_1 held h => exact idle l.track h
  case h_2 held v p h => exact idle .blending h
  case h_3 held v p h => exact idle .blending h
  all_goals next h => exact rest (by rw [h]; exact nofun)

/-! ### Replies of the drive (R101 to R112, R172 to R177) -/

theorem keeps_heard {l : Lane} {v : DriveView} (view : ViewOk v) (free : ∀ m, l.mode ≠ .defining m) : Keeps l (l.heard v) where
  ok ok := by
    refine { ok with misses := Nat.zero_le _, view := ?_, mode := modeOk_congr free rfl rfl rfl rfl rfl rfl ok.mode }
    intro w h
    cases h
    exact view
  address := rfl
  parent := rfl
  queue := Nat.le_refl _
  service h := h

/-- A miss counted, with the view kept or dropped (R173). -/
theorem keeps_missed {l : Lane} {n : Nat} {v : Option DriveView} (count : n ≤ 3) (view : v = l.view ∨ v = none)
    (free : ∀ m, l.mode ≠ .defining m) : Keeps l { l with misses := n, view := v } where
  ok ok := by
    refine { ok with misses := count, view := ?_, mode := modeOk_congr free rfl rfl rfl rfl rfl rfl ok.mode }
    rcases view with rfl | rfl
    · exact ok.view
    · exact nofun
  address := rfl
  parent := rfl
  queue := Nat.le_refl _
  service h := h

/-- A trip code that a trip of this cause may have (R93). -/
def codeOk (c : TripCause) (code : Nat) : Prop := (c = .drive → 1 ≤ code ∧ code ≤ 63) ∧ (c ≠ .drive → code = 0)

theorem codeOk_cascade : codeOk .cascade 0 := ⟨nofun, fun _ => rfl⟩

theorem codeOk_link : codeOk .link 0 := ⟨nofun, fun _ => rfl⟩

theorem isMoving_service {l : Lane} (h : l.mode.isMoving = true) : ∀ m, l.mode ≠ .defining m := by
  intro m e
  rw [e] at h
  cases h

theorem keeps_enterTripped {l : Lane} (moving : l.mode.isMoving = true) {c : TripCause} {code : Nat} (fits : codeOk c code) :
    Keeps l (l.enterTripped c code) where
  ok ok := by
    obtain ⟨timer, driveType⟩ := timer_isSome_of_service ok (isMoving_service moving)
    exact { ok with
      output := inRange_zero, queue := ⟨Nat.zero_le _, fun _ h => absurd h List.not_mem_nil⟩
      mode := ⟨rfl, rfl, rfl, timer, driveType, fits.1, fits.2, fun _ => rfl⟩ }
  address := rfl
  parent := rfl
  queue := Nat.zero_le _
  service _ _ h := by cases h

/-- A change within TRIPPED. -/
theorem keeps_tripped {l : Lane} {k k' : TripCause} {n n' : Nat} {r r' : Bool} {m m' : Option Marker}
    (h : l.mode = .tripped k n r m) (fits : codeOk k n → codeOk k' n') (clear : (k = .cascade → m = none) → k' = .cascade → m' = none) :
    Keeps l { l with mode := .tripped k' n' r' m' } :=
  keeps_mode (fun ok => by
    obtain ⟨output, track, queue, timer, driveType, drive, other, cascade⟩ := (modeOk_tripped h).1 ok.mode
    have code := fits ⟨drive, other⟩
    exact ⟨output, track, queue, timer, driveType, code.1, code.2, clear cascade⟩) nofun

/-- A trip within TRIPPED: a CASCADE trip finds a CASCADE lane, which holds no pending CLEAR (R87, R102, R104). -/
theorem keeps_retrip {l : Lane} {c : TripCause} {code : Nat} (fits : codeOk c code)
    (cascade : c = .cascade → ∃ n r m, l.mode = .tripped .cascade n r m) : Keeps l { l with mode := l.mode.retrip c code } := by
  cases h : l.mode with
  | tripped k n r m =>
    refine keeps_tripped h (fun _ => fits) fun clear e => ?_
    obtain ⟨n', r', m', mode⟩ := cascade e
    rw [h] at mode
    cases mode
    exact clear rfl
  | defining m => exact (congrArg (Keeps l) (by rw [Mode.retrip, ← h])).mpr (Keeps.refl l)
  | standby | active | stopping => exact (congrArg (Keeps l) (by rw [Mode.retrip, ← h])).mpr (Keeps.refl l)

theorem keeps_leaveTripped {l : Lane} {k : TripCause} {n : Nat} {r : Bool} {m : Option Marker} (h : l.mode = .tripped k n r m)
    (toActive : Bool) : Keeps l (l.leaveTripped toActive) where
  ok ok := by
    obtain ⟨-, -, -, timer, driveType, -⟩ := (modeOk_tripped h).1 ok.mode
    refine { ok with output := inRange_zero, mode := ?_ }
    cases toActive
    · exact ⟨rfl, rfl, timer, driveType⟩
    · exact ⟨timer, driveType, nofun, trivial⟩
  address := rfl
  parent := rfl
  queue := Nat.le_refl _
  service _ m h := by cases toActive <;> cases h

theorem keeps_resolve (l : Lane) : Keeps l { l with mode := l.mode.resolve } := by
  cases h : l.mode with
  | tripped k n r m => exact keeps_tripped h id id
  | defining m => exact (congrArg (Keeps l) (by rw [Mode.resolve, ← h])).mpr (Keeps.refl l)
  | standby | active | stopping => exact (congrArg (Keeps l) (by rw [Mode.resolve, ← h])).mpr (Keeps.refl l)

theorem keeps_dropClear (l : Lane) : Keeps l { l with mode := l.mode.dropClear } := by
  cases h : l.mode with
  | tripped k n r m => exact keeps_tripped h id fun _ _ => rfl
  | defining m => exact (congrArg (Keeps l) (by rw [Mode.dropClear, ← h])).mpr (Keeps.refl l)
  | standby | active | stopping => exact (congrArg (Keeps l) (by rw [Mode.dropClear, ← h])).mpr (Keeps.refl l)

theorem keeps_identified {l : Lane} {m : Marker} (h : l.mode = .defining m) {r : Reply} (view : ViewOk r.view) :
    Keeps l (l.identified r) where
  ok ok := by
    obtain ⟨output, track, -⟩ := (modeOk_defining h).1 ok.mode
    refine { ok with view := ?_, mode := ⟨output, track, rfl, rfl⟩ }
    intro v e
    cases e
    exact view
  address := rfl
  parent := rfl
  queue := Nat.le_refl _
  service _ _ h := by cases h

/-- A valid reply has a lawful view (R171, R174). -/
theorem viewOk_of_validReply {t : Txn} {chars : List Byte} {r : Reply} (h : validReply t chars = some r) : ViewOk r.view := by
  unfold validReply at h
  dsimp only at h
  split at h
  · split at h
    · cases h
    · next d hd =>
      split at h
      · next ok =>
        cases h
        rw [Bool.and_eq_true, ruOk_iff] at ok
        obtain ⟨code, range⟩ := ok
        refine ⟨range, ?_⟩
        cases d <;> simp [tripCodeOk] at code ⊢ <;> omega
      · cases h
  · cases h

end Sys2Proof.Records
end

section
/-! PROOF. An update keeps a lane record lawful (R26 to R34, R38, R61 to R65, R98). -/

namespace Sys2Proof.Records

open Sys2Proof.Machine Sys2Proof.Safety

/-! ## Values in range (R32, R33) -/

theorem cfgOk_limits {c : LaneCfg} (h : cfgOk c = true) : inRange c.lowLimit ∧ inRange c.highLimit ∧ c.lowLimit ≤ c.highLimit := by
  simp only [cfgOk, Bool.and_eq_true, decide_eq_true_eq, ruOk_iff] at h
  obtain ⟨⟨⟨⟨⟨⟨⟨⟨⟨⟨-, -⟩, low⟩, high⟩, order⟩, -⟩, -⟩, -⟩, -⟩, -⟩, -⟩ := h
  exact ⟨low, high, order⟩

theorem inRange_clampTo {low high d : Int} (hl : inRange low) (hh : inRange high) : inRange (clampTo low high d) := by
  unfold clampTo inRange at *
  split_ifs <;> omega

theorem inRange_moveToward {output demand : Int} {cap : Nat} (ho : inRange output) (hd : inRange demand) :
    inRange (moveToward output demand cap) := by
  unfold moveToward inRange at *
  split_ifs <;> omega

/-! ## Stage 1 (R61 to R65) -/

theorem progressOk_begun {g : Segment} {p : Progress} (ok : SegmentOk g) (h : ProgressOk g p) : ProgressOk g (g.begun p) := by
  cases p with
  | notStarted => exact progressOk_started ok
  | rate r => exact h
  | count n => exact h

/-- One advance keeps the profile value in range and the progress of its own kind (R62, R63). -/
theorem advance_keeps {g : Segment} {v : Int} {p : Progress} (ok : SegmentOk g) (progress : ProgressOk g p) (range : inRange v) :
    inRange (g.advance v p).1 ∧ ∀ p', (g.advance v p).2 = some p' → ProgressOk g p' := by
  have begun := progressOk_begun ok progress
  obtain ⟨body, notify, tag⟩ := g
  unfold Segment.advance
  generalize Segment.begun _ p = b at begun ⊢
  cases body with
  | ramp e peak accel =>
    obtain ⟨endRange, peakLow, -, -⟩ := ok
    cases b with
    | notStarted => exact ⟨range, fun p' h => by cases h; trivial⟩
    | count n => exact absurd begun id
    | rate r =>
      have begun : 1 ≤ r ∧ r ≤ peak := begun
      dsimp only
      split
      · exact ⟨endRange, nofun⟩
      · refine ⟨?_, fun p' h => ?_⟩
        · unfold inRange at *
          dsimp only
          split_ifs <;> omega
        · cases h
          change 1 ≤ min (r + accel) peak ∧ min (r + accel) peak ≤ peak
          omega
  | dwell n =>
    cases b with
    | notStarted => exact ⟨range, fun p' h => by cases h; trivial⟩
    | rate r => exact absurd begun id
    | count m =>
      have begun : 1 ≤ m ∧ m ≤ n := begun
      dsimp only
      split
      · exact ⟨range, nofun⟩
      · refine ⟨range, fun p' h => ?_⟩
        cases h
        change 1 ≤ m - 1 ∧ m - 1 ≤ n
        omega

/-- What stage 1 leaves is a lawful run of a queue no longer than before, and BLENDING or the track as it was (R29). -/
theorem advanceHead_keeps {held : Option Int} {queue : List Segment} {run : Run} (t : Track) (segments : ∀ g ∈ queue, SegmentOk g)
    (ok : RunOk held queue run) :
    RunOk held (advanceHead run queue t).queue (advanceHead run queue t).run ∧ (advanceHead run queue t).queue <:+ queue := by
  unfold advanceHead
  split
  · next v p g rest =>
    obtain ⟨free, range, g', rest', same, progress⟩ := ok
    cases same
    obtain ⟨range', progress'⟩ := advance_keeps (segments g List.mem_cons_self) progress range
    split
    · next v' p' h =>
      rw [h] at range' progress'
      exact ⟨⟨free, range', g, rest, rfl, progress' p' rfl⟩, List.suffix_refl _⟩
    · next v' h =>
      rw [h] at range'
      cases rest with
      | nil => exact ⟨trivial, List.nil_suffix⟩
      | cons g' rest' => exact ⟨⟨free, range', g', rest', rfl, trivial⟩, List.suffix_cons _ _⟩
  · exact ⟨ok, List.suffix_refl _⟩

/-! ## The update (R27) -/

/-- A lane keeps what the laws read when its timer is set running, if it had one. -/
theorem keeps_timer {l : Lane} {n : Nat} (h : l.timer.isSome) : Keeps l { l with timer := some n } where
  ok ok := by
    have free : ∀ m, l.mode ≠ .defining m := by
      intro m e
      obtain ⟨-, -, -, -, -, -, stopped, -⟩ := (modeOk_defining e).1 ok.mode
      rw [stopped] at h
      cases h
    exact { ok with mode := modeOk_congr free rfl rfl rfl rfl h.symm rfl ok.mode }
  address := rfl
  parent := rfl
  queue := Nat.le_refl _
  service h := h

theorem keeps_settle {l : Lane} {held : Option Int} {run : Run} (h : l.mode = .active held run) (base : Int) :
    Keeps l (l.settle held (advanceHead run l.queue l.track) base).1 where
  ok ok := by
    obtain ⟨timer, driveType, heldOk, runOk⟩ := (modeOk_active h).1 ok.mode
    obtain ⟨runOk', queue⟩ := advanceHead_keeps l.track ok.queue.2 runOk
    obtain ⟨low, high, -⟩ := cfgOk_limits ok.cfg
    exact { ok with
      output := inRange_moveToward ok.output (inRange_clampTo low high)
      queue := ⟨queue.length_le.trans ok.queue.1, fun g hg => ok.queue.2 g (queue.subset hg)⟩
      mode := ⟨timer, driveType, heldOk, runOk'⟩ }
  address := rfl
  parent := rfl
  queue := by
    change (advanceHead run l.queue l.track).queue.length ≤ _
    unfold advanceHead
    split
    · next v p g rest e =>
      rw [e]
      split
      · exact Nat.le_refl _
      · cases rest with
        | nil => exact Nat.zero_le _
        | cons g' rest' => exact Nat.le_succ _
    · exact Nat.le_refl _
  service _ _ h := by cases h

theorem keeps_runDown {l : Lane} {k : StopCause} (h : l.mode = .stopping k) : Keeps l l.runDown.1 := by
  unfold Lane.runDown
  dsimp only
  split
  · refine ⟨fun ok => ?_, rfl, rfl, Nat.le_refl _, fun _ _ e => by cases e⟩
    obtain ⟨track, -, timer, driveType⟩ := (modeOk_stopping h).1 ok.mode
    exact { ok with output := inRange_zero, mode := ⟨rfl, track, timer, driveType⟩ }
  · refine ⟨fun ok => ?_, rfl, rfl, Nat.le_refl _, id⟩
    have mode := ok.mode
    simp only [ModeOk, h] at mode
    exact { ok with output := inRange_moveToward ok.output inRange_zero, mode := by simpa only [ModeOk, h] using mode }

theorem update_timer (l : Lane) (base : Int) : (l.update base).1.timer = l.timer := by
  unfold Lane.update
  split
  case h_1 => rfl
  case h_2 => unfold Lane.runDown; dsimp only; split <;> rfl
  all_goals rfl

theorem keeps_update {l : Lane} (base : Int) {n : Nat} (timer : l.timer.isSome) :
    Keeps l { (l.update base).1 with timer := some n } := by
  refine Keeps.trans (l' := (l.update base).1) ?_ (keeps_timer (by rwa [update_timer]))
  unfold Lane.update
  split
  case h_1 held run h => exact keeps_settle h base
  case h_2 k h => exact keeps_runDown h
  all_goals exact Keeps.refl l

end Sys2Proof.Records
end

section
/-! PROOF. What a request can come to (R152 to R155), and what an event can do to the lane table and the pool, said once as a chain of
changes; the laws of the table are derived from it. -/

namespace Sys2Proof.Requests

open Sys2Proof.Machine Sys2Proof.Safety

/-- The state in which a changing request goes on after steps 5 and 6: as it was, or with the strikes of a port that is not BARRED
cleared (R124). -/
inductive KeyPassed (c : Ctx) (s : State) : State → Prop
  | unowned : KeyPassed c s s
  | owner (free : (s.port c.port).barred = false) : KeyPassed c s (s.modPort c.port Port.clearStrikes)

/-- What a changing request of a lane can come to: refused with nothing changed, refused with a strike, refused after the right key, or
on to its own steps with the record of its lane, which has no pending operation (R153). -/
inductive Outcome (c : Ctx) (s : State) (rest : LaneId → Lane → State → Answer × State) : Answer × State → Prop
  | refused (r : Result) (ne : r ≠ .ok) : Outcome c s rest (.refuse r, s)
  | struck (free : (s.port c.port).barred = false) : Outcome c s rest (.refuse .key, s.modPort c.port Port.strike)
  | busy (u : State) (passed : KeyPassed c s u) : Outcome c s rest (.refuse .laneBusy, u)
  | goesOn (i : LaneId) (l : Lane) (u : State) (lane : laneOf c.req.lane = some i) (record : s.lane i = some l)
      (free : l.mode.isPending = false) (passed : KeyPassed c s u) : Outcome c s rest (rest i l u)

theorem keyed_outcome {c : Ctx} {claiming : Bool} {i : LaneId} {l : Lane} {s : State} (lane : laneOf c.req.lane = some i)
    (record : s.lane i = some l) (rest : LaneId → Lane → State → Answer × State) :
    Outcome c s rest (keyed c claiming l s (rest i l)) := by
  have passes : ∀ u, KeyPassed c s u → Outcome c s rest (if l.mode.isPending then (.refuse .laneBusy, u) else rest i l u) := by
    intro u passed
    split
    · exact .busy u passed
    · next free => exact .goesOn i l u lane record (Bool.eq_false_iff.2 free) passed
  unfold keyed keyCheck
  cases l.claim with
  | none =>
    by_cases barred : (claiming && (s.port c.port).barred) = true
    · simpa only [barred, if_true] using .refused .barred (by decide)
    · simpa only [barred, Bool.false_eq_true, if_false] using passes s .unowned
  | some cl =>
    by_cases barred : (s.port c.port).barred = true
    · simpa only [barred, if_true] using .refused .barred (by decide)
    · have free : (s.port c.port).barred = false := Bool.eq_false_iff.2 barred
      by_cases owner : cl.port = c.port
      · by_cases key : cl.key = c.req.key
        · simpa [free, owner, key] using passes _ (.owner free)
        · simpa [free, owner, key] using Outcome.struck (rest := rest) free
      · simpa [free, owner] using Outcome.refused (rest := rest) .owned (by decide)

theorem changing_outcome (c : Ctx) (shape claiming : Bool) (s : State) (rest : LaneId → Lane → State → Answer × State) :
    Outcome c s rest (changing c shape claiming s rest) := by
  unfold changing
  cases shape with
  | false => exact .refused .badField (by decide)
  | true =>
    simp only [Bool.not_true, Bool.false_eq_true, if_false]
    cases lane : laneOf c.req.lane with
    | none => exact .refused .badLane (by decide)
    | some i =>
      cases record : s.lane i with
      | none => simpa only [record] using .refused .noLane (by decide)
      | some l => simpa only [record] using keyed_outcome lane record rest

/-- What a request that names no lane can come to: refused with nothing changed, or on to its own steps (R154). -/
theorem laneless_outcome (c : Ctx) (shape : Bool) (s : State) (rest : Answer × State) :
    (∃ r, r ≠ .ok ∧ laneless c shape s rest = (.refuse r, s)) ∨ laneless c shape s rest = rest := by
  unfold laneless
  split
  · exact .inl ⟨.badField, by decide, rfl⟩
  · split
    · exact .inl ⟨.badLane, by decide, rfl⟩
    · exact .inr rfl

/-- The engine's event: the part stays as it is, or serves the request that the arbiter chooses (R151, R152). -/
theorem runEngine_cases {row : Instr} {act : Request.Action} {s t : State} (h : runEngine row act s = .next t) :
    t = s ∨ ∃ c, Serves s c row ∧ t = (act c (s.takeRequest c)).2.finish c (act c (s.takeRequest c)).1 := by
  by_cases held : s.held = true
  · rw [runEngine_of_held held] at h
    exact .inl (Host.Outcome.next.inj h).symm
  · by_cases chosen : ∃ c, s.choice = some c ∧ rowOfCode c.req.code = row
    · obtain ⟨c, choice, code⟩ := chosen
      have serves : Serves s c row := ⟨Bool.eq_false_iff.2 held, choice, code⟩
      rw [runEngine_of_serves serves] at h
      exact .inr ⟨c, serves, (Host.Outcome.next.inj h).symm⟩
    · rw [runEngine_of_not_chosen fun c choice code => chosen ⟨c, choice, code⟩] at h
      exact .inl (Host.Outcome.next.inj h).symm

/-- An event of the running part (R1). -/
theorem whenRunning_cases {f : State → State} {s t : State} (h : whenRunning s f = .next t) : t = s ∨ s.held = false ∧ t = f s := by
  obtain rfl := Host.Outcome.next.inj h
  cases held : s.held with
  | true => exact .inl (if_pos rfl)
  | false => exact .inr ⟨rfl, if_neg (by decide)⟩

end Sys2Proof.Requests

namespace Sys2Proof.Records

open Sys2Proof.Machine Sys2Proof.Safety Sys2Proof.Requests

/-! ## Changes of the table -/

/-- A change of the lane table and the pool. -/
inductive Change (s t : State) : Prop
  /-- Neither is reached. -/
  | same (table : SameTable s t)
  /-- A record is replaced by one that keeps what the laws read. -/
  | put (i : LaneId) (l l' : Lane) (lane : s.lane i = some l) (keeps : Keeps l l') (writes : WritesLane s t i (some l'))
  /-- A segment joins a queue and takes a pool slot (R57). -/
  | append (i : LaneId) (l : Lane) (g : Segment) (lane : s.lane i = some l) (room : l.queue.length < 12) (pool : s.poolFree ≠ 0)
      (ok : LaneOk l → LaneOk { l with queue := l.queue ++ [g] }) (writes : WritesLane s t i (some { l with queue := l.queue ++ [g] }))
  /-- A configuration is written, with an address that the lane holds already or no other lane holds (R15). -/
  | amend (i : LaneId) (l l' : Lane) (lane : s.lane i = some l) (ok : LaneOk l → LaneOk l')
      (address : l'.cfg.address = l.cfg.address ∨ s.addressHeld i l'.cfg.address = false) (source : l'.source = l.source)
      (queue : l'.queue = l.queue) (mode : l'.mode = l.mode) (writes : WritesLane s t i (some l'))
  /-- A source is written that the structure checks accept (R82). -/
  | reparent (i : LaneId) (l : Lane) (src : Source) (lane : s.lane i = some l) (ok : LaneOk l → LaneOk (l.setSource src))
      (accepted : s.sourceRefusal i src = none) (writes : WritesLane s t i (some (l.setSource src)))
  /-- A VACANT lane is defined with an address and a source that the structure checks accept (R10, R11). -/
  | define (i : LaneId) (m : Marker) (cfg : LaneCfg) (src : Source) (setPoint : Int) (lane : s.lane i = none)
      (ok : LaneOk (Lane.defined m cfg src setPoint)) (accepted : s.defineRefusal i cfg src = none)
      (writes : WritesLane s t i (some (Lane.defined m cfg src setPoint)))
  /-- A lane that is DEFINING or has no followers becomes VACANT (R4, R13, R21). -/
  | vacate (i : LaneId) (l : Lane) (lane : s.lane i = some l) (free : (∃ m, l.mode = .defining m) ∨ s.followerCount i = 0)
      (writes : WritesLane s t i none)
  /-- Every running update timer counts one (R26). -/
  | tick (lanes : ∀ j, t.lane j = tickLane (s.lane j)) (pool : t.poolFree = s.poolFree)
  /-- Every lane is VACANT and the pool is full (R25, R49). -/
  | clear (lanes : ∀ j, t.lane j = none) (pool : t.poolFree = 64)

/-- A chain of changes of the table. -/
abbrev Trail (s t : State) : Prop := Relation.ReflTransGen Change s t

theorem writes_putLane (s : State) (i : LaneId) (o : Option Lane) : WritesLane s (s.putLane i o) i o :=
  ⟨s.lane_putLane_self i o, fun _ => s.lane_putLane_of_ne o, rfl⟩

section
variable {s u t : State}

theorem Trail.step (h : Trail s u) (c : Change u t) : Trail s t := Relation.ReflTransGen.tail h c

theorem Trail.same (h : Trail s u) (table : SameTable u t) : Trail s t := h.step (.same table)

/-- A step that reaches neither the table nor the pool. -/
theorem Trail.rest (h : Trail s u) (lanes : t.lanes = u.lanes) (pool : t.poolFree = u.poolFree) : Trail s t :=
  h.same ⟨fun j => by simp only [State.lane, lanes], pool⟩

theorem Trail.modPort (h : Trail s u) (p : PortId) (f : Port → Port) : Trail s (u.modPort p f) := h.rest (by simp) (by simp)

theorem Trail.report (h : Trail s u) (i : LaneId) (r : LaneReport) : Trail s (u.report i r) := h.rest (by simp) (by simp)

theorem Trail.pushRef (h : Trail s u) (i : LaneId) : Trail s (u.pushRef i) := h.rest (by simp) (by simp)

theorem Trail.pushControl (h : Trail s u) (i : LaneId) (k : FrameKind) : Trail s (u.pushControl i k) := h.rest rfl rfl

theorem Trail.put (h : Trail s u) {i : LaneId} {l l' : Lane} (lane : u.lane i = some l) (keeps : Keeps l l') :
    Trail s (u.putLane i (some l')) := h.step (.put i l l' lane keeps (writes_putLane u i _))

theorem Trail.vacate (h : Trail s u) {i : LaneId} {l : Lane} (lane : u.lane i = some l)
    (free : (∃ m, l.mode = .defining m) ∨ u.followerCount i = 0) : Trail s (u.enterVacant i) :=
  (h.step (.vacate i l lane free (writes_putLane u i none))).rest rfl rfl

theorem Trail.keyPassed {c : Ctx} (h : Trail s u) (passed : KeyPassed c u t) : Trail s t := by
  cases passed with
  | unowned => exact h
  | owner free => exact h.modPort _ _

end

/-! ## Trips and resolutions (R85 to R88, R103 to R107) -/

theorem cascadeUnresolved_iff {m : Mode} : m.cascadeUnresolved = true ↔ ∃ n c, m = .tripped .cascade n false c := by
  unfold Mode.cascadeUnresolved
  split <;> simp

theorem cascadeResolved_iff {m : Mode} : m.cascadeResolved = true ↔ ∃ n c, m = .tripped .cascade n true c := by
  unfold Mode.cascadeResolved
  split <;> simp

/-- A lane trips as the root or as a coupled, moving follower of a lane that trips (R85). -/
theorem moving_of_trips {s : State} {root j : LaneId} {l : Lane} (h : s.trips root j = true) (lane : s.lane j = some l) :
    j = root ∨ l.mode.isMoving = true := by
  unfold State.trips State.tripsUp at h
  simp only [lane, Bool.or_eq_true, Bool.and_eq_true, beq_iff_eq] at h
  exact h.imp_right fun h => h.1.1

/-- A lane leaves as the root or as an unresolved CASCADE lane (R88). -/
theorem tripped_of_leaves {s : State} {root j : LaneId} {l : Lane} {a b : Bool} (h : s.leaves root a j = some b)
    (lane : s.lane j = some l) : j = root ∨ ∃ n c, l.mode = .tripped .cascade n false c := by
  by_cases root : j = root
  · exact .inl root
  · unfold State.leaves State.leavesUp at h
    rw [if_neg root, lane] at h
    simp only [Bool.and_eq_true] at h
    split at h
    · next cascade => exact .inr (cascadeUnresolved_iff.1 cascade.1)
    · cases h

/-- A resolved CASCADE lane alone becomes unresolved by a trip of its parent (R87). -/
theorem resolved_of_retrips {s : State} {root : LaneId} {l : Lane} (h : s.retrips root l = true) :
    ∃ n c, l.mode = .tripped .cascade n true c := by
  simp only [State.retrips, Bool.and_eq_true] at h
  exact cascadeResolved_iff.1 h.1.1

/-- A fold over all lanes whose step at a lane writes that lane alone: every step finds its own lane as it was before the fold. -/
theorem foldl_allLanes_rest {f : State → LaneId → State} (Q : State → Prop)
    (own : ∀ u j i, i ≠ j → (f u j).lane i = u.lane i) {before : State}
    (step : ∀ u j, Q u → u.lane j = before.lane j → Q (f u j)) (start : Q before) : Q (allLanes.foldl f before) := by
  have all : ∀ (js : List LaneId) (u : State), js.Nodup → (∀ j ∈ js, u.lane j = before.lane j) → Q u → Q (js.foldl f u) := by
    intro js
    induction js with
    | nil => exact fun _ _ _ h => h
    | cons j js ih =>
      intro u nodup same h
      obtain ⟨new, nodup⟩ := List.nodup_cons.1 nodup
      refine ih _ nodup (fun i hi => ?_) (step u j h (same j List.mem_cons_self))
      rw [own u j i fun e => new (e ▸ hi)]
      exact same i (List.mem_cons_of_mem _ hi)
  exact all allLanes before allLanes_nodup (fun _ _ => rfl) start

theorem trail_enterTripped {s : State} {root : LaneId} {c : TripCause} {code : Nat}
    (moving : ∀ l, s.lane root = some l → l.mode.isMoving = true) (fits : codeOk c code) : Trail s (s.enterTripped root c code) := by
  refine foldl_allLanes_rest (Trail s) (fun u j i ne => by rw [lane_tripOne, if_neg ne]) (fun u j h same => ?_) .refl
  unfold State.tripOne
  split
  · exact h
  · next l lane =>
    rw [lane] at same
    split
    · next trips =>
      refine ((h.put same ?_).report _ _).pushRef _
      obtain rfl | moves := moving_of_trips trips lane
      · simpa only [if_true] using keeps_enterTripped (moving l lane) fits
      · refine keeps_enterTripped moves ?_
        split
        · exact fits
        · exact codeOk_cascade
    · split
      · next retrips =>
        obtain ⟨n, m, mode⟩ := resolved_of_retrips retrips
        exact (h.put same (keeps_retrip codeOk_cascade fun _ => ⟨n, true, m, mode⟩)).report _ _
      · exact h

theorem trail_leaveOne {s u : State} {j : LaneId} {l : Lane} (h : Trail s u) (lane : u.lane j = some l)
    (tripped : ∃ k n r m, l.mode = .tripped k n r m) (a : Bool) : Trail s (u.leaveOne j l a) := by
  obtain ⟨k, n, r, m, mode⟩ := tripped
  have left := h.put lane (keeps_leaveTripped mode a)
  have reported : Trail s (if a then (u.putLane j (some (l.leaveTripped a))).report j .resumed
      else u.putLane j (some (l.leaveTripped a))) := by
    split
    · exact left.report _ _
    · exact left
  unfold State.leaveOne State.preemptClear
  cases l.mode.clearMarker with
  | none => exact reported
  | some m => exact (reported.modPort m.port _).rest rfl rfl

theorem trail_leaveTripped {s : State} {root : LaneId} (tripped : ∀ l, s.lane root = some l → ∃ k n r m, l.mode = .tripped k n r m)
    (a : Bool) : Trail s (s.leaveTripped root a) := by
  refine foldl_allLanes_rest (Trail s) (fun u j i ne => by rw [lane_resolveOne, if_neg ne]) (fun u j h same => ?_) .refl
  unfold State.resolveOne
  split
  · exact h
  · next l lane =>
    rw [lane] at same
    split
    · next t leaves =>
      refine trail_leaveOne h same ?_ t
      obtain rfl | ⟨n, m, mode⟩ := tripped_of_leaves leaves lane
      · exact tripped l lane
      · exact ⟨_, _, _, _, mode⟩
    · split
      · exact h
      · split
        · exact h.put same (keeps_resolve l)
        · exact h

end Sys2Proof.Records
end

section
/-! PROOF. Every request is a chain of changes of the table. -/

namespace Sys2Proof.Records

open Sys2Proof.Machine Sys2Proof.Safety Sys2Proof.Requests

/-! ## What a payload that is read gives (section 10.4) -/

theorem u16At_lt (bs : List Byte) (k : Nat) : u16At bs k < 65536 := by
  have high := (byteAt bs k).isLt
  have low := (byteAt bs (k + 1)).isLt
  unfold u16At
  omega

theorem linkOk_of_sourceAt {kind : Byte} {pl : List Byte} {k : Nat} {src : Source} (h : sourceAt kind pl k = some src) :
    ∀ link, src = .follow link → LinkOk link := by
  rintro link rfl
  unfold sourceAt at h
  split at h
  · cases h
  · obtain ⟨found, link', same⟩ := Option.map_eq_some_iff.1 h
    cases same
    unfold followLinkAt at link'
    split at link'
    · split at link'
      · next ok =>
        cases link'
        simpa [ratioOk, trimOk, LinkOk] using ok
      · cases link'
    · cases link'
  · cases h

theorem segmentOk_of_segmentOf {pl : List Byte} {g : Segment} (h : segmentOf pl = some g) : SegmentOk g := by
  have tail : ∀ {b : SegBody}, (if decide ((byteAt pl 9).toNat ≤ 1) then
      some ({ body := b, notify := (byteAt pl 9).toNat == 1, tag := byteAt pl 10 } : Segment) else none) = some g → g.body = b := by
    intro b h
    split at h
    · cases h; rfl
    · cases h
  unfold segmentOf at h
  dsimp only at h
  split at h
  · split at h
    · next ok =>
      simp only [Bool.and_eq_true, decide_eq_true_eq, ruOk_iff] at ok
      simpa [SegmentOk, tail h, and_assoc] using ok
    · cases h
  · split at h
    · next ok =>
      have short := u16At_lt pl 7
      simp only [decide_eq_true_eq] at ok
      simp only [SegmentOk, tail h]
      omega
    · cases h
  · cases h

/-- A field that the mask does not name keeps its value (R15). -/
theorem amendCfg_address {pl : List Byte} {c cfg : LaneCfg} (h : amendCfg pl c = some cfg) (unnamed : (amendMask pl).getLsbD 0 = false) :
    cfg.address = c.address := by
  unfold amendCfg at h
  dsimp only at h
  split at h
  · cases h
    simp only [unnamed, Bool.false_eq_true, if_false]
  · cases h

/-! ## Requests that address a lane -/

/-- A lane with no pending operation is in service or VACANT (R6). -/
theorem service_of_free {l : Lane} (h : l.mode.isPending = false) : ∀ m, l.mode ≠ .defining m := by
  intro m e
  rw [e] at h
  cases h

theorem lane_of_keyPassed {c : Ctx} {s u : State} (h : KeyPassed c s u) (i : LaneId) : u.lane i = s.lane i := by
  cases h with
  | unowned => rfl
  | owner free => exact s.lane_modPort _ _ i

section
variable {c : Ctx} {s : State}

theorem trail_changing {shape claiming : Bool} {rest : LaneId → Lane → State → Answer × State}
    (goesOn : ∀ i l u, u.lane i = some l → (∀ m, l.mode ≠ .defining m) → l.mode.isPending = false → Trail s u → Trail s (rest i l u).2) :
    Trail s (changing c shape claiming s rest).2 := by
  have outcome := changing_outcome c shape claiming s rest
  generalize changing c shape claiming s rest = out at outcome ⊢
  cases outcome with
  | refused r ne => exact .refl
  | struck free => exact .modPort .refl _ _
  | busy u passed => exact .keyPassed .refl passed
  | goesOn i l u lane record free passed =>
    exact goesOn i l u ((lane_of_keyPassed passed i).trans record) (service_of_free free) free (.keyPassed .refl passed)

theorem trail_claim : Trail s (claimAction c s).2 := by
  refine trail_changing fun i l u lane service _ h => ?_
  split
  · exact h
  · split
    · exact h
    · next key => exact h.put lane (keeps_claim (fun cl e => by cases e; exact key) service)

theorem trail_release : Trail s (releaseAction c s).2 :=
  trail_changing fun _ l _ lane _ _ h => h.put lane (keeps_release l)

theorem trail_pin : Trail s (pinAction c s).2 := trail_changing fun _ _ _ lane service _ h => h.put lane (keeps_pin service)

theorem trail_setPoint : Trail s (setPointAction c s).2 := by
  refine trail_changing fun i l u lane _ _ h => ?_
  split
  · exact h
  · next range => exact h.put lane (keeps_setPoint (ruOk_iff.1 (by simpa using range)))

theorem trail_setRatio : Trail s (setRatioAction c s).2 := by
  refine trail_changing fun i l u lane _ _ h => ?_
  split
  · exact h
  · next k source =>
    split
    · exact h
    · next range =>
      refine h.put lane (keeps_source (fun k' e => ?_) (by rw [source]; rfl))
      cases e
      simpa [ratioOk, trimOk, LinkOk, FollowLink.setRatio] using range

theorem trail_start : Trail s (startAction c s).2 := by
  refine trail_changing fun i l u lane _ _ h => ?_
  split
  · exact h
  · next mode =>
    split
    · exact h
    · split
      · exact h
      · split
        · exact h
        · split
          · exact h
          · exact h.put lane (keeps_start (not_not.1 mode) _)

theorem trail_stop : Trail s (stopAction c s).2 := by
  refine trail_changing fun i l u lane _ _ h => ?_
  split
  case h_1 mode => exact h.put lane (keeps_enterStopping mode _)
  all_goals exact h

theorem trail_hold : Trail s (holdAction c s).2 := by
  refine trail_changing fun i l u lane _ _ h => ?_
  split
  case h_1 mode => exact h.put lane (keeps_takeHold l)
  all_goals exact h

theorem trail_resume : Trail s (resumeAction c s).2 := by
  refine trail_changing fun i l u lane _ _ h => ?_
  split
  case h_1 mode => exact h.put lane (keeps_resume mode)
  all_goals exact h

theorem trail_runProfile : Trail s (runProfileAction c s).2 := by
  refine trail_changing fun i l u lane _ _ h => ?_
  split
  case h_1 mode =>
    split
    · exact h
    · split
      · exact h.put lane (keeps_run mode fun ok _ => runOk_firstRun ok)
      · exact h.put lane (keeps_run mode fun _ runOk => ⟨rfl, runOk⟩)
      · exact h
  all_goals exact h

theorem trail_pauseProfile : Trail s (pauseProfileAction c s).2 := by
  refine trail_changing fun i l u lane _ _ h => ?_
  split
  case h_1 mode => exact h.put lane (keeps_run mode fun _ runOk => runOk.2)
  all_goals exact h

theorem trail_flushProfile : Trail s (flushProfileAction c s).2 :=
  trail_changing fun _ l _ lane _ _ h => h.put lane (keeps_flush l)

theorem laneOk_append {l : Lane} {g : Segment} (room : l.queue.length < 12) (segment : SegmentOk g)
    (mode : l.mode = .standby ∨ ∃ held run, l.mode = .active held run) (ok : LaneOk l) : LaneOk { l with queue := l.queue ++ [g] } := by
  have segments : ∀ x ∈ l.queue ++ [g], SegmentOk x := by
    intro x h
    obtain h | h := List.mem_append.1 h
    · exact ok.queue.2 x h
    · rwa [List.mem_singleton.1 h]
  refine { ok with queue := ⟨by simpa using room, segments⟩, mode := ?_ }
  obtain standby | ⟨held, run, active⟩ := mode
  · exact (modeOk_standby (l := { l with queue := l.queue ++ [g] }) standby).2 ((modeOk_standby standby).1 ok.mode)
  · obtain ⟨timer, driveType, heldOk, runOk⟩ := (modeOk_active active).1 ok.mode
    refine (modeOk_active (l := { l with queue := l.queue ++ [g] }) active).2 ⟨timer, driveType, heldOk, ?_⟩
    cases run with
    | idle => trivial
    | running v p =>
      obtain ⟨free, range, g', rest, queue, progress⟩ := runOk
      exact ⟨free, range, g', rest ++ [g], by simp [queue], progress⟩
    | paused v p =>
      obtain ⟨range, g', rest, queue, progress⟩ := runOk
      exact ⟨range, g', rest ++ [g], by simp [queue], progress⟩

theorem trail_append : Trail s (appendAction c s).2 := by
  refine trail_changing fun i l u lane _ _ h => ?_
  have joins : (l.mode = .standby ∨ ∃ held run, l.mode = .active held run) → Trail s (match segmentOf c.req.payload with
      | none => ((Answer.refuse .badField, u) : Answer × State)
      | some g =>
        if Config.queueMax ≤ l.queue.length then (.refuse .queueFull, u)
        else if u.poolFree = 0 then (.refuse .poolFull, u)
        else (.ok [], u.putLane i (some { l with queue := l.queue ++ [g] }))).2 := by
    intro mode
    split
    · exact h
    · next g segment =>
      split
      · exact h
      · next room =>
        split
        · exact h
        · next pool =>
          have room : l.queue.length < 12 := Nat.lt_of_not_le room
          exact h.step (.append i l g lane room pool (laneOk_append room (segmentOk_of_segmentOf segment) mode) (writes_putLane ..))
  split
  case h_1 mode => exact joins (.inl mode)
  case h_2 mode => exact joins (.inr ⟨_, _, mode⟩)
  all_goals exact h

/-- A source written into a record (R43, R83). -/
theorem laneOk_setSource {l : Lane} {src : Source} (range : ∀ k, src = .follow k → LinkOk k) (ok : LaneOk l) :
    LaneOk (l.setSource src) := by
  refine { ok with link := range, mode := ?_ }
  have mode := ok.mode
  unfold ModeOk at mode ⊢
  cases hm : l.mode <;> simp_all [Lane.setSource, Mode.isActive]

theorem trail_setSource : Trail s (setSourceAction c s).2 := by
  refine trail_changing fun i l u lane _ _ h => ?_
  split
  · exact h
  · split
    · exact h
    · next src source =>
      split
      · exact h
      · next accepted =>
        exact h.step (.reparent i l src lane (laneOk_setSource (linkOk_of_sourceAt source)) accepted (writes_putLane ..))

theorem laneOk_amended {l : Lane} {m : Half} {cfg : LaneCfg} (cfgs : cfgOk cfg = true) (service : ∀ m, l.mode ≠ .defining m)
    (ok : LaneOk l) : LaneOk (l.amended m cfg) := by
  refine { ok with cfg := cfgs, misses := ?_, view := ?_, mode := ?_ }
  · change (if cfg.address = l.cfg.address then l.misses else 0) ≤ 3
    split
    · exact ok.misses
    · exact Nat.zero_le _
  · change ∀ v, (if cfg.address = l.cfg.address then l.view else none) = some v → ViewOk v
    split
    · exact ok.view
    · exact nofun
  · refine modeOk_congr (l := l) service rfl rfl rfl rfl ?_ rfl ok.mode
    change (if m.getLsbD 1 then some cfg.periodTicks else l.timer).isSome = _
    split
    · exact (timer_isSome_of_service ok service).1.symm
    · rfl

theorem trail_amend : Trail s (amendAction c s).2 := by
  refine trail_changing fun i l u lane service _ h => ?_
  dsimp only
  split
  · exact h
  · split
    · exact h
    · split
      · exact h
      · split
        · exact h
        · next cfg read =>
          split
          · exact h
          · next cfgs =>
            split
            · exact h
            · next taken =>
              have address : cfg.address = l.cfg.address ∨ u.addressHeld i cfg.address = false := by
                cases named : (amendMask c.req.payload).getLsbD 0 with
                | false => exact .inl (amendCfg_address read named)
                | true => exact .inr (Bool.eq_false_iff.2 fun held => taken ⟨named, held⟩)
              have written := h.step (.amend i l (l.amended (amendMask c.req.payload) cfg) lane
                (laneOk_amended (by simpa using cfgs) service) address rfl rfl rfl (writes_putLane ..))
              unfold State.amend
              dsimp only
              split
              · exact written
              · exact written.rest rfl rfl

theorem trail_retire : Trail s (retireAction c s).2 := by
  refine trail_changing fun i l u lane _ _ h => ?_
  split
  · exact h
  · split
    · exact h
    · split
      · exact h
      · next followers => exact h.vacate lane (.inr (not_not.1 followers))

theorem trail_clearTrip : Trail s (clearTripAction c s).2 := by
  refine trail_changing fun i l u lane _ _ h => ?_
  split
  case h_1 k n m mode => exact h.trans (trail_leaveTripped (fun l' e => by rw [lane] at e; cases e; exact ⟨k, n, true, m, mode⟩) false)
  case h_4 code m mode => exact (h.put lane (keeps_tripped mode id fun _ e => by cases e)).pushControl _ _
  all_goals exact h

/-! ## DEFINE_LANE (R9 to R11) -/

theorem laneOk_defined {m : Marker} {cfg : LaneCfg} {src : Source} {setPoint : Int} (cfgs : cfgOk cfg = true)
    (range : inRange setPoint) (link : ∀ k, src = .follow k → LinkOk k) : LaneOk (Lane.defined m cfg src setPoint) where
  cfg := cfgs
  setPoint := range
  output := inRange_zero
  link := link
  queue := ⟨Nat.zero_le _, fun _ h => absurd h List.not_mem_nil⟩
  key := nofun
  misses := Nat.zero_le _
  view := nofun
  mode := ⟨rfl, rfl, rfl, rfl, rfl, rfl, rfl, rfl, rfl⟩

theorem trail_defineVacant {i : LaneId} (lane : s.lane i = none) : Trail s (defineVacant c i s).2 := by
  unfold defineVacant
  dsimp only
  split
  · next cfg src _ source =>
    split
    · exact .refl
    · next ranges =>
      simp only [Bool.not_eq_true', Bool.not_eq_false, Bool.and_eq_true, ruOk_iff] at ranges
      split
      · exact .refl
      · next accepted =>
        exact (Trail.step .refl (.define i _ cfg src _ lane (laneOk_defined ranges.1 ranges.2 (linkOk_of_sourceAt source)) accepted
          (writes_putLane ..))).pushControl _ _
  · exact .refl

theorem trail_define : Trail s (defineAction c s).2 := by
  unfold defineAction
  split
  · exact .refl
  · split
    · exact .refl
    · next i lane =>
      split
      · next vacant => exact trail_defineVacant vacant
      · next l record =>
        have outcome := keyed_outcome (claiming := false) lane record fun _ _ u => (.refuse .badState, u)
        generalize keyed c false l s _ = out at outcome ⊢
        cases outcome with
        | refused r ne => exact .refl
        | struck free => exact .modPort .refl _ _
        | busy u passed => exact .keyPassed .refl passed
        | goesOn i l u lane record free passed => exact .keyPassed .refl passed

/-! ## Requests that leave the table as it is -/

theorem trail_laneless {shape : Bool} {rest : Answer × State} (h : Trail s rest.2) : Trail s (laneless c shape s rest).2 := by
  obtain ⟨r, -, e⟩ | e := laneless_outcome c shape s rest
  · rw [e]
  · rwa [e]

theorem trail_ok_port {payload : List Byte} {p : PortId} (f : Port → Port) :
    Trail s ((.ok payload, s.modPort p f) : Answer × State).2 := .modPort .refl p f

theorem trail_setLease : Trail s (setLeaseAction c s).2 := trail_laneless (trail_ok_port _)

theorem trail_setAttentionMask : Trail s (setAttentionMaskAction c s).2 := trail_laneless (.modPort .refl _ _)

theorem trail_readAttention : Trail s (readAttentionAction c s).2 := trail_laneless .refl

theorem trail_ackAttention : Trail s (ackAttentionAction c s).2 := by
  refine trail_laneless ?_
  dsimp only
  split
  · exact .refl
  · exact trail_ok_port _

theorem trail_readDevice : Trail s (readDeviceAction c s).2 := trail_laneless .refl

theorem trail_nop : Trail s (nopAction c s).2 := trail_laneless .refl

theorem trail_findDrive : Trail s (findDriveAction c s).2 := by
  refine trail_laneless ?_
  dsimp only
  split
  · exact .refl
  · split <;> exact .refl

theorem trail_listLanes : Trail s (listLanesAction c s).2 := trail_laneless .refl

theorem trail_readLane : Trail s (readLaneAction c s).2 := by
  unfold readLaneAction
  split
  · exact .refl
  · split <;> exact .refl

theorem trail_readProfile : Trail s (readProfileAction c s).2 := by
  unfold readProfileAction
  split
  · exact .refl
  · split
    · exact .refl
    · split
      · exact .refl
      · split <;> exact .refl

end

/-! ## The engine's event -/

theorem trail_takeRequest (s : State) (c : Ctx) : Trail s (s.takeRequest c) := .rest .refl (by simp) (by simp)

theorem trail_finish {s u : State} (h : Trail s u) (c : Ctx) (a : Answer) : Trail s (u.finish c a) := by
  cases a with
  | refuse r => exact h.modPort c.port (·.answer c.slot r [])
  | ok payload => exact h.modPort c.port (·.answer c.slot .ok payload)
  | wait => exact h

theorem trail_runEngine {row : Instr} {act : Request.Action} {s t : State} (trail : ∀ c u, Trail u (act c u).2)
    (h : runEngine row act s = .next t) : Trail s t := by
  obtain rfl | ⟨c, -, rfl⟩ := runEngine_cases h
  · exact .refl
  · exact trail_finish ((trail_takeRequest s c).trans (trail c _)) c _

end Sys2Proof.Records
end

section
/-! PROOF. Every event, and every step, is a chain of changes of the table. -/

namespace Sys2Proof.Records

open Sys2Proof.Machine Sys2Proof.Safety Sys2Proof.Requests

section
variable {s u t : State}

/-! ## Resets and HALT -/

theorem trail_clear (lanes : t.lanes = Vector.replicate 24 none) (pool : t.poolFree = 64) : Trail s t := by
  refine Trail.step (u := s) .refl (.clear (fun j => ?_) pool)
  rw [State.lane, lanes]
  simp only [Fin.getElem_fin, Vector.getElem_replicate]

theorem trail_haltAssertion (h : execHaltAssertion s = .next t) : Trail s t := by
  unfold execHaltAssertion at h
  obtain e | ⟨-, e⟩ := whenRunning_cases h
  · exact e ▸ .refl
  · rw [e]
    refine foldl_keeps (Trail s) (fun u j h => ?_) allLanes _ (.rest .refl rfl rfl)
    unfold State.haltOne
    split
    · exact h
    · next l lane =>
      split
      case h_1 held run mode => exact h.put lane (keeps_enterStopping mode _)
      all_goals exact h

/-! ## Updates and lease expiry -/

theorem trail_reportAll (h : Trail s u) (i : LaneId) (rs : List LaneReport) : Trail s (u.reportAll i rs) := by
  unfold State.reportAll
  induction rs generalizing u with
  | nil => exact h
  | cons r rs ih => exact ih (h.report i r)

theorem trail_laneUpdate {i : LaneId} (h : execLaneUpdate i s = .next t) : Trail s t := by
  unfold execLaneUpdate at h
  obtain rfl | ⟨-, rfl⟩ := whenRunning_cases h
  · exact .refl
  · split
    · exact .refl
    · next l lane =>
      split
      · exact .refl
      · next n timer =>
        have written := Trail.put .refl lane (keeps_update (n := l.cfg.periodTicks) (s.baseDemand l) (timer ▸ rfl))
        exact (trail_reportAll written i _).pushRef i

theorem trail_leaseExpiry {p : PortId} (h : execLeaseExpiry p s = .next t) : Trail s t := by
  unfold execLeaseExpiry at h
  obtain rfl | ⟨-, rfl⟩ := whenRunning_cases h
  · exact .refl
  · split
    · exact .refl
    · refine foldl_keeps (Trail s) (fun u j h => ?_) allLanes _ (.modPort .refl _ _)
      unfold State.fallbackOne
      split
      · exact h
      · next l lane =>
        split
        · next owned =>
          split
          · exact h.put lane (keeps_takeHold l)
          · split
            case h_1 held run mode => exact h.put lane (keeps_enterStopping mode _)
            all_goals exact h
          · exact (h.put lane (keeps_release l)).modPort _ _
        · exact h

/-! ## The drive link -/

theorem trail_startTransaction (h : Trail s u) : Trail s u.startTransaction := by
  unfold State.startTransaction
  split
  · split <;> exact h.rest rfl rfl
  · exact h

theorem trail_tripReply {i : LaneId} {code : Nat} (h : Trail s u) (fits : 1 ≤ code ∧ code ≤ 63) : Trail s (u.tripReply i code) := by
  have drive : codeOk .drive code := ⟨fun _ => fits, fun e => absurd rfl e⟩
  unfold State.tripReply
  split
  · exact h
  · next l lane =>
    have moving : l.mode.isMoving = true → Trail s (u.enterTripped i .drive code) := fun moves =>
      h.trans (trail_enterTripped (fun l' e => by rw [lane] at e; cases e; exact moves) drive)
    split
    case h_1 mode => exact moving (by rw [mode]; rfl)
    case h_2 mode => exact moving (by rw [mode]; rfl)
    case h_4 mode => exact (h.put lane (keeps_retrip drive (fun e => by cases e))).report _ _
    all_goals exact h

theorem trail_resolveOwn {i : LaneId} {l : Lane} (h : Trail s u) (lane : u.lane i = some l)
    (tripped : ∃ k n r m, l.mode = .tripped k n r m) : Trail s (u.resolveOwn i l) := by
  unfold State.resolveOwn
  split
  · exact h.trans (trail_leaveTripped (fun l' e => by rw [lane] at e; cases e; exact tripped) _)
  · exact h.put lane (keeps_resolve l)

theorem trail_readyReply {i : LaneId} (h : Trail s u) : Trail s (u.readyReply i) := by
  unfold State.readyReply
  split
  · exact h
  · next l lane =>
    split
    case h_1 mode => exact trail_resolveOwn h lane ⟨_, _, _, _, mode⟩
    case h_2 mode => exact trail_resolveOwn h lane ⟨_, _, _, _, mode⟩
    all_goals exact h

theorem trail_linkLoss {i : LaneId} (h : Trail s u) (service : ∀ l, u.lane i = some l → ∀ m, l.mode ≠ .defining m) :
    Trail s (u.linkLoss i) := by
  unfold State.linkLoss
  split
  · exact h
  · next l lane =>
    have lost := (h.put lane (keeps_missed (Nat.le_refl 3) (.inr rfl) (service l lane))).report i .linkLost
    have lane' : ((u.putLane i (some { l with misses := 3, view := none })).report i .linkLost).lane i
        = some { l with misses := 3, view := none } := by simp
    have moving : l.mode.isMoving = true → Trail s (((u.putLane i (some { l with misses := 3, view := none })).report i
        .linkLost).enterTripped i .link 0) := fun moves =>
      lost.trans (trail_enterTripped (fun l' e => by rw [lane'] at e; cases e; exact moves) codeOk_link)
    dsimp only
    split
    case h_1 mode => exact moving (by rw [mode]; rfl)
    case h_2 mode => exact moving (by rw [mode]; rfl)
    case h_3 k n r m mode =>
      exact (lost.put lane' (keeps_retrip (l := { l with misses := 3, view := none }) codeOk_link (fun e => by cases e))).report _ _
    all_goals exact lost

theorem trail_miss {i : LaneId} {l : Lane} (h : Trail s u) (lane : u.lane i = some l) (service : ∀ m, l.mode ≠ .defining m) :
    Trail s (u.miss i l) := by
  unfold State.miss
  split
  · exact h.put lane (keeps_missed (by omega) (.inl rfl) service)
  · split
    · exact trail_linkLoss h fun l' e => by rw [lane] at e; cases e; exact service
    · exact h

/-- The trip code of a valid TRIP reply (R171). -/
theorem tripCode_of_trip {v : DriveView} (ok : ViewOk v) (trip : v.state = .trip) : 1 ≤ v.tripCode ∧ v.tripCode ≤ 63 :=
  ⟨ok.2.2.1 trip, ok.2.1⟩

theorem trail_refEnd {i : LaneId} {l : Lane} {r : Option Reply} (h : Trail s u) (lane : u.lane i = some l)
    (service : ∀ m, l.mode ≠ .defining m) (view : ∀ x, r = some x → ViewOk x.view) : Trail s (u.refEnd i l r) := by
  unfold State.refEnd
  split
  · exact trail_miss h lane service
  · next r =>
    have heard := h.put lane (keeps_heard (view r rfl) service)
    dsimp only
    split
    · next trip => exact trail_tripReply heard (tripCode_of_trip (view r rfl) trip)
    · exact trail_readyReply heard

theorem trail_endClear {i : LaneId} {m : Marker} {r : Result} (h : Trail s u) : Trail s (u.endClear i m r) := by
  unfold State.endClear
  split
  · exact h
  · next l lane => exact (h.put lane (keeps_dropClear l)).modPort _ _

theorem trail_clearEnd {i : LaneId} {l : Lane} {m : Marker} {r : Option Reply} (h : Trail s u) (lane : u.lane i = some l)
    (tripped : ∃ k n r m, l.mode = .tripped k n r m) (view : ∀ x, r = some x → ViewOk x.view) : Trail s (u.clearEnd i l m r) := by
  have service : ∀ m, l.mode ≠ .defining m := by
    obtain ⟨k, n, r, m, mode⟩ := tripped
    simp [mode]
  unfold State.clearEnd
  split
  · exact trail_endClear (trail_miss h lane service)
  · next r =>
    dsimp only
    split
    · next trip => exact trail_endClear (trail_tripReply (h.put lane (keeps_heard (view r rfl) service)) (tripCode_of_trip (view r rfl) trip))
    · have cleared := h.put lane ((keeps_heard (view r rfl) service).trans (keeps_dropClear (l.heard r.view)))
      refine Trail.modPort (cleared.trans (trail_leaveTripped (fun l' e => ?_) false)) m.port _
      obtain ⟨k, n, r, m, mode⟩ := tripped
      rw [State.lane_putLane_self] at e
      cases e
      exact ⟨k, n, r, none, by simp [Lane.heard, mode, Mode.dropClear]⟩

theorem trail_identEnd {i : LaneId} {l : Lane} {m : Marker} {n : Nat} {r : Option Reply} (h : Trail s u) (lane : u.lane i = some l)
    (defining : l.mode = .defining m) (view : ∀ x, r = some x → ViewOk x.view) : Trail s (u.identEnd i l m n r) := by
  unfold State.identEnd
  split
  · next r => exact (h.put lane (keeps_identified defining (view r rfl))).modPort _ _
  · split
    · exact h.pushControl _ _
    · exact (h.vacate lane (.inl ⟨m, defining⟩)).modPort _ _

theorem trail_endTransaction {x : Txn} {r : Option Reply} (view : ∀ x, r = some x → ViewOk x.view) : Trail s (s.endTransaction x r) := by
  have guards : Trail s { s with link := .guarding } := .rest .refl rfl rfl
  unfold State.endTransaction
  dsimp only
  split
  · exact guards
  · split
    · exact guards
    · next l lane =>
      split
      case h_1 m mode => exact trail_identEnd guards lane mode view
      case h_6 mode => exact trail_clearEnd guards lane ⟨_, _, _, _, mode⟩ view
      case h_2 | h_3 | h_4 | h_5 | h_15 | h_16 => exact guards
      all_goals next mode => exact trail_refEnd guards lane (by simp [mode]) view

theorem trail_driveReply {bytes : List Byte} (h : execDriveReply bytes s = .next t) : Trail s t := by
  unfold execDriveReply at h
  obtain rfl | ⟨-, rfl⟩ := whenRunning_cases h
  · exact .refl
  · split
    case h_1 => exact trail_endTransaction fun _ => viewOk_of_validReply
    all_goals exact .refl

theorem trail_replyWindowTimeout (h : execReplyWindowTimeout s = .next t) : Trail s t := by
  unfold execReplyWindowTimeout at h
  obtain rfl | ⟨-, rfl⟩ := whenRunning_cases h
  · exact .refl
  · split
    case h_1 => exact trail_endTransaction nofun
    all_goals exact .refl

theorem trail_replyBroken (h : execReplyBroken s = .next t) : Trail s t := by
  unfold execReplyBroken at h
  obtain rfl | ⟨-, rfl⟩ := whenRunning_cases h
  · exact .refl
  · split
    case h_1 => exact trail_endTransaction nofun
    all_goals exact .refl

theorem trail_guardEnd (h : execGuardEnd s = .next t) : Trail s t := by
  unfold execGuardEnd at h
  obtain rfl | ⟨-, rfl⟩ := whenRunning_cases h
  · exact .refl
  · split
    case h_1 => exact trail_startTransaction (.rest .refl rfl rfl)
    all_goals exact .refl

/-! ## Events that leave the table as it is -/

/-- An event of the running part that reaches neither the table nor the pool. -/
theorem trail_whenRunning {f : State → State} (same : (f s).lanes = s.lanes ∧ (f s).poolFree = s.poolFree)
    (h : whenRunning s f = .next t) : Trail s t := by
  obtain rfl | ⟨-, rfl⟩ := whenRunning_cases h
  · exact .refl
  · exact .rest .refl same.1 same.2

theorem same_atPort {p : PortId} {f : State → State} (same : (f s).lanes = s.lanes ∧ (f s).poolFree = s.poolFree) :
    (s.atPort p f).lanes = s.lanes ∧ (s.atPort p f).poolFree = s.poolFree := by
  unfold State.atPort
  split
  · exact same
  · exact ⟨rfl, rfl⟩
  · exact same

theorem same_frameEnded (p : PortId) (n : Nat) : (s.frameEnded p n).lanes = s.lanes ∧ (s.frameEnded p n).poolFree = s.poolFree := by
  cases p <;> exact ⟨rfl, rfl⟩

theorem same_receive (p : PortId) (bytes : List Byte) :
    (s.receive p bytes).lanes = s.lanes ∧ (s.receive p bytes).poolFree = s.poolFree := by
  unfold State.receive
  dsimp only
  split
  · simpa using same_frameEnded p bytes.length
  · exact same_frameEnded p bytes.length

theorem trail_receivedCharacter {b : Byte} (h : execReceivedCharacter b s = .next t) : Trail s t := by
  unfold execReceivedCharacter at h
  refine trail_whenRunning ?_ h
  dsimp only
  split
  · exact ⟨rfl, rfl⟩
  · split
    · split <;> exact ⟨rfl, rfl⟩
    · split
      · exact same_frameEnded ..
      · split
        · exact same_receive ..
        · exact ⟨rfl, rfl⟩

theorem trail_portReset {p : PortId} (h : execPortReset p s = .next t) : Trail s t := by
  unfold execPortReset at h
  refine trail_whenRunning (same_atPort ?_) h
  split
  · exact ⟨rfl, rfl⟩
  · cases p <;> exact ⟨rfl, rfl⟩

theorem trail_readResponse {n : Nat} (h : execReadResponse n s = .next t) : Trail s t := by
  unfold execReadResponse at h
  refine trail_whenRunning (same_atPort ?_) h
  dsimp only
  split
  · split <;> exact ⟨rfl, rfl⟩
  · exact ⟨rfl, rfl⟩

/-! ## Every event and every step -/

/-- Every event is a chain of changes of the table. -/
theorem trail_exec {c : Instr} (h : exec c s = .next t) : Trail s t := by
  cases c with
  | powerOn straps => obtain rfl := Host.Outcome.next.inj h; exact trail_clear rfl rfl
  | resetNAssertion straps => obtain rfl := Host.Outcome.next.inj h; exact trail_clear rfl rfl
  | resetNRelease => obtain rfl := Host.Outcome.next.inj h; exact .rest .refl rfl rfl
  | haltAssertion => exact trail_haltAssertion h
  | haltRelease =>
    change execHaltRelease s = _ at h
    unfold execHaltRelease at h
    exact trail_whenRunning ⟨rfl, rfl⟩ h
  | goodFrame p bytes =>
    change execGoodFrame p bytes s = _ at h
    unfold execGoodFrame at h
    exact trail_whenRunning (same_atPort (same_receive p bytes)) h
  | frameDiscard p bytes =>
    change execFrameDiscard p bytes s = _ at h
    unfold execFrameDiscard at h
    exact trail_whenRunning (same_atPort (same_frameEnded p _)) h
  | writeAborted bytes =>
    change execWriteAborted bytes s = _ at h
    unfold execWriteAborted at h
    exact trail_whenRunning (same_atPort ⟨rfl, rfl⟩) h
  | framingError =>
    change execFramingError s = _ at h
    unfold execFramingError at h
    exact trail_whenRunning ⟨rfl, rfl⟩ h
  | gapTimerExpiry =>
    change execGapTimerExpiry s = _ at h
    unfold execGapTimerExpiry at h
    exact trail_whenRunning (by split <;> exact ⟨rfl, rfl⟩) h
  | portReset p => exact trail_portReset h
  | readResponse n => exact trail_readResponse h
  | responseSendStart =>
    change execResponseSendStart s = _ at h
    unfold execResponseSendStart at h
    exact trail_whenRunning (by split <;> exact ⟨rfl, rfl⟩) h
  | responseTransmitted =>
    change execResponseTransmitted s = _ at h
    unfold execResponseTransmitted at h
    exact trail_whenRunning (by split <;> exact ⟨rfl, rfl⟩) h
  | unknownRequest => exact trail_runEngine (fun _ _ => .refl) h
  | defineLane => exact trail_runEngine (fun _ _ => trail_define) h
  | amendLane => exact trail_runEngine (fun _ _ => trail_amend) h
  | pinLane => exact trail_runEngine (fun _ _ => trail_pin) h
  | retireLane => exact trail_runEngine (fun _ _ => trail_retire) h
  | readLane => exact trail_runEngine (fun _ _ => trail_readLane) h
  | findDrive => exact trail_runEngine (fun _ _ => trail_findDrive) h
  | listLanes => exact trail_runEngine (fun _ _ => trail_listLanes) h
  | start => exact trail_runEngine (fun _ _ => trail_start) h
  | stop => exact trail_runEngine (fun _ _ => trail_stop) h
  | hold => exact trail_runEngine (fun _ _ => trail_hold) h
  | resume => exact trail_runEngine (fun _ _ => trail_resume) h
  | setPoint => exact trail_runEngine (fun _ _ => trail_setPoint) h
  | setSource => exact trail_runEngine (fun _ _ => trail_setSource) h
  | setRatio => exact trail_runEngine (fun _ _ => trail_setRatio) h
  | clearTrip => exact trail_runEngine (fun _ _ => trail_clearTrip) h
  | appendSegment => exact trail_runEngine (fun _ _ => trail_append) h
  | runProfile => exact trail_runEngine (fun _ _ => trail_runProfile) h
  | pauseProfile => exact trail_runEngine (fun _ _ => trail_pauseProfile) h
  | flushProfile => exact trail_runEngine (fun _ _ => trail_flushProfile) h
  | readProfile => exact trail_runEngine (fun _ _ => trail_readProfile) h
  | claim => exact trail_runEngine (fun _ _ => trail_claim) h
  | release => exact trail_runEngine (fun _ _ => trail_release) h
  | setLease => exact trail_runEngine (fun _ _ => trail_setLease) h
  | setAttentionMask => exact trail_runEngine (fun _ _ => trail_setAttentionMask) h
  | readAttention => exact trail_runEngine (fun _ _ => trail_readAttention) h
  | ackAttention => exact trail_runEngine (fun _ _ => trail_ackAttention) h
  | readDevice => exact trail_runEngine (fun _ _ => trail_readDevice) h
  | nop => exact trail_runEngine (fun _ _ => trail_nop) h
  | laneUpdate i => exact trail_laneUpdate h
  | leaseExpiry p => exact trail_leaseExpiry h
  | transactionStart =>
    change execTransactionStart s = _ at h
    unfold execTransactionStart at h
    obtain rfl | ⟨-, rfl⟩ := whenRunning_cases h
    · exact .refl
    · exact trail_startTransaction .refl
  | linkFrameSent =>
    change execLinkFrameSent s = _ at h
    unfold execLinkFrameSent at h
    exact trail_whenRunning (by split <;> exact ⟨rfl, rfl⟩) h
  | driveReply bytes => exact trail_driveReply h
  | replyWindowTimeout => exact trail_replyWindowTimeout h
  | replyBroken => exact trail_replyBroken h
  | guardEnd => exact trail_guardEnd h
  | receivedCharacter b => exact trail_receivedCharacter h
  | replyBegun =>
    change execReplyBegun s = _ at h
    unfold execReplyBegun at h
    exact trail_whenRunning (by split <;> exact ⟨rfl, rfl⟩) h

/-- Every lane after a tick: its timer one tick fewer (R26). -/
theorem lane_tick (s : State) (held : s.held = false) (i : LaneId) : s.tick.lane i = tickLane (s.lane i) := by
  simp [State.lane, State.tick, held]

theorem trail_tick : Trail s s.tick := by
  cases held : s.held with
  | true => rw [State.tick, held, if_pos rfl]
  | false => exact Trail.step (u := s) .refl (.tick (lane_tick s held) (by simp [State.tick, held, State.sampleHalt]))

/-- What a step does: an event, a pin's event or a tick (logs 2, 6). -/
theorem step_cases (h : step s = .next t) : (∃ c rest, s.pending = c :: rest ∧ exec c { s with pending := rest } = .next t)
    ∨ (s.pending = [] ∧ s.lineIn = [] ∧ t = s.tick)
    ∨ ∃ e rest, s.pending = [] ∧ s.lineIn = e :: rest ∧ t = { s with lineIn := rest }.line e := by
  unfold step at h
  cases pending : s.pending with
  | cons c rest =>
    rw [pending] at h
    exact .inl ⟨c, rest, rfl, h⟩
  | nil =>
    rw [pending] at h
    obtain rfl := Host.Outcome.next.inj h
    cases coming : s.lineIn with
    | nil => exact .inr (.inl ⟨rfl, rfl, by simp only [State.quiet, coming]⟩)
    | cons e rest => exact .inr (.inr ⟨e, rest, rfl, rfl, by simp only [State.quiet, coming, pending]⟩)

end

theorem trail_step {s t : State} (h : step s = .next t) : Trail s t := by
  obtain ⟨c, rest, -, event⟩ | ⟨-, -, rfl⟩ | ⟨e, rest, -, -, rfl⟩ := step_cases h
  · exact Relation.ReflTransGen.trans (Trail.rest (u := s) (t := { s with pending := rest }) .refl rfl rfl) (trail_exec event)
  · exact trail_tick
  · exact .same .refl ⟨fun j => State.lane_line _ e j, State.poolFree_line _ e⟩

end Sys2Proof.Records
end

section
/-! PROOF. The follow relation as a forest (R78, R79): depth is a rank that grows by one along every link, and by it the values that are
looked up a bounded number of links are the values of the chains themselves. -/

namespace Sys2Proof.Chains

open Sys2Proof.Machine Sys2Proof.Safety

/-- A lane is neither VACANT nor DEFINING. -/
def InService (s : State) (p : LaneId) : Prop := ∃ l, s.lane p = some l ∧ ∀ m, l.mode ≠ .defining m

section
variable {s t : State}

theorem parentOf_of_lane {j : LaneId} {l : Lane} (h : s.lane j = some l) :
    s.parentOf j = l.source.link.map (·.parent) := by
  simp [State.parentOf, h]

theorem parentOf_of_vacant {j : LaneId} (h : s.lane j = none) : s.parentOf j = none := by simp [State.parentOf, h]

theorem parentOf_eq_some_iff {j p : LaneId} : s.parentOf j = some p ↔ follows s j p := by
  unfold follows State.parentOf
  cases s.lane j with
  | none => simp
  | some l => cases hs : l.source <;> simp [hs, Source.link]

/-! ## Depth (R78) -/

theorem depthUp_succ (n : Nat) (j : LaneId) : s.depthUp (n + 1) j = match s.parentOf j with
    | some p => s.depthUp n p + 1
    | none => 0 := rfl

/-- A number that falls along every link bounds the depth. -/
theorem depthUp_le {r : LaneId → Nat} (falls : ∀ j p, s.parentOf j = some p → r p < r j) (n : Nat) (j : LaneId) :
    s.depthUp n j ≤ r j := by
  induction n generalizing j with
  | zero => exact Nat.zero_le _
  | succ n ih =>
    rw [depthUp_succ]
    cases h : s.parentOf j with
    | none => exact Nat.zero_le _
    | some p => exact Nat.lt_of_le_of_lt (ih p) (falls j p h)

/-- A chain that ends within the links looked up is looked up whole. -/
theorem depthUp_eq_of_lt {n m : Nat} {j : LaneId} (short : s.depthUp n j < n) (le : n ≤ m) : s.depthUp m j = s.depthUp n j := by
  induction n generalizing j m with
  | zero => exact absurd short (Nat.not_lt_zero _)
  | succ n ih =>
    cases m with
    | zero => exact absurd le (Nat.not_succ_le_zero _)
    | succ m =>
      rw [depthUp_succ, depthUp_succ] at *
      cases h : s.parentOf j with
      | none => rfl
      | some p =>
        rw [h] at short
        dsimp only at short ⊢
        rw [ih (Nat.lt_of_succ_lt_succ short) (Nat.le_of_succ_le_succ le)]

theorem depth_of_no_parent {j : LaneId} (h : s.parentOf j = none) : s.depth j = 0 := by
  unfold State.depth
  rw [depthUp_succ, h]

theorem depth_of_parent {j p : LaneId} (le : s.depth j ≤ 4) (h : s.parentOf j = some p) : s.depth j = s.depth p + 1 := by
  unfold State.depth at *
  rw [depthUp_succ, h] at le ⊢
  dsimp only at le ⊢
  rw [depthUp_eq_of_lt (n := 23) (m := 24) (Nat.lt_of_lt_of_le (Nat.lt_of_succ_le le) (by decide)) (by decide)]

/-! ## The law of the follow tree, by parents and ranks (R79) -/

theorem treeLaw_iff : TreeLaw s ↔ (∀ j, s.depth j ≤ 4) ∧ ∀ j p, s.parentOf j = some p → InService s p := by
  constructor
  · intro h
    refine ⟨fun j => ?_, fun j p parent => ?_⟩
    · cases lane : s.lane j with
      | none => rw [depth_of_no_parent (parentOf_of_vacant lane)]; exact Nat.zero_le _
      | some l => exact (h j l lane).1
    · obtain ⟨l, k, lane, source, rfl⟩ := parentOf_eq_some_iff.1 parent
      exact (h j l lane).2 k source
  · rintro ⟨depth, service⟩ j l lane
    exact ⟨depth j, fun k source => service j k.parent (parentOf_eq_some_iff.2 ⟨l, k, lane, source, rfl⟩)⟩

/-- A rank of at most 4 that falls along every link, and parents in service, make a follow tree. -/
theorem treeLaw_of_rank (r : LaneId → Nat) (le : ∀ j, r j ≤ 4) (falls : ∀ j p, s.parentOf j = some p → r p < r j)
    (service : ∀ j p, s.parentOf j = some p → InService s p) : TreeLaw s :=
  treeLaw_iff.2 ⟨fun j => (depthUp_le falls 24 j).trans (le j), service⟩

theorem depth_le (h : TreeLaw s) (j : LaneId) : s.depth j ≤ 4 := (treeLaw_iff.1 h).1 j

theorem depth_parent (h : TreeLaw s) {j p : LaneId} (parent : s.parentOf j = some p) : s.depth j = s.depth p + 1 :=
  depth_of_parent (depth_le h j) parent

/-! ## Descendants (R78) -/

theorem underUp_succ (n : Nat) (i j : LaneId) : s.underUp i (n + 1) j = (j == i || match s.parentOf j with
    | some p => s.underUp i n p
    | none => false) := rfl

theorem underUp_succ_eq (h : TreeLaw s) (i : LaneId) {n : Nat} {j : LaneId} (deep : s.depth j < n) :
    s.underUp i (n + 1) j = s.underUp i n j := by
  induction n generalizing j with
  | zero => exact absurd deep (Nat.not_lt_zero _)
  | succ n ih =>
    rw [underUp_succ (n + 1), underUp_succ n]
    cases parent : s.parentOf j with
    | none => rfl
    | some p =>
      have up := depth_parent h parent
      dsimp only
      rw [ih (by omega)]

theorem under_iff (h : TreeLaw s) (i j : LaneId) :
    s.under i j = true ↔ j = i ∨ ∃ p, s.parentOf j = some p ∧ s.under i p = true := by
  have whole : ∀ p, s.underUp i 23 p = s.under i p := fun p =>
    (underUp_succ_eq h i (n := 23) (by have := depth_le h p; omega)).symm
  unfold State.under
  rw [underUp_succ]
  cases parent : s.parentOf j with
  | none => simp
  | some p => simpa [State.under] using or_congr_right (Bool.eq_iff_iff.1 (whole p))

/-- A descendant is no less deep. -/
theorem depth_le_of_under (h : TreeLaw s) {i j : LaneId} (under : s.under i j = true) : s.depth i ≤ s.depth j := by
  induction d : s.depth j generalizing j with
  | zero =>
    obtain rfl | ⟨p, parent, -⟩ := (under_iff h i j).1 under
    · omega
    · have := depth_parent h parent
      omega
  | succ n ih =>
    obtain rfl | ⟨p, parent, below⟩ := (under_iff h i j).1 under
    · omega
    · have up := depth_parent h parent
      have := ih below (by omega)
      omega

/-! ## Followers and height (R78) -/

theorem mem_followers {i j : LaneId} : j ∈ s.followers i ↔ s.parentOf j = some i := by
  simp [State.followers, mem_allLanes]

theorem followerCount_eq_zero_iff {i : LaneId} : s.followerCount i = 0 ↔ ∀ j, s.parentOf j ≠ some i := by
  simp [State.followerCount, List.eq_nil_iff_forall_not_mem, mem_followers]

theorem le_foldl_max (g : LaneId → Nat) (js : List LaneId) (x : Nat) :
    x ≤ js.foldl (fun h j => max h (g j + 1)) x ∧ ∀ j ∈ js, g j + 1 ≤ js.foldl (fun h j => max h (g j + 1)) x := by
  induction js generalizing x with
  | nil => simp
  | cons j js ih =>
    obtain ⟨first, others⟩ := ih (max x (g j + 1))
    simp only [List.foldl_cons, List.forall_mem_cons]
    exact ⟨by omega, by omega, others⟩

theorem foldl_max_attained (g : LaneId → Nat) (js : List LaneId) (x : Nat) :
    js.foldl (fun h j => max h (g j + 1)) x = x ∨ ∃ j ∈ js, js.foldl (fun h j => max h (g j + 1)) x = g j + 1 := by
  induction js generalizing x with
  | nil => exact .inl rfl
  | cons j js ih =>
    simp only [List.foldl_cons, List.exists_mem_cons_iff]
    obtain first | ⟨k, mem, attained⟩ := ih (max x (g j + 1))
    · rw [first]
      omega
    · exact .inr (.inr ⟨k, mem, attained⟩)

theorem heightDown_succ (n : Nat) (i : LaneId) :
    s.heightDown (n + 1) i = (s.followers i).foldl (fun h j => max h (s.heightDown n j + 1)) 0 := rfl

theorem foldl_congr_mem {α β : Type} {f g : α → β → α} (js : List β) (h : ∀ j ∈ js, ∀ x, f x j = g x j) (x : α) :
    js.foldl f x = js.foldl g x := by
  induction js generalizing x with
  | nil => rfl
  | cons j js ih =>
    rw [List.foldl_cons, List.foldl_cons, h j List.mem_cons_self]
    exact ih (fun k mem => h k (List.mem_cons_of_mem _ mem)) _

theorem heightDown_succ_eq (h : TreeLaw s) {n : Nat} {i : LaneId} (deep : 4 < n + s.depth i) :
    s.heightDown (n + 1) i = s.heightDown n i := by
  induction n generalizing i with
  | zero =>
    have := depth_le h i
    omega
  | succ n ih =>
    rw [heightDown_succ (n + 1), heightDown_succ n]
    refine foldl_congr_mem _ (fun j mem x => ?_) 0
    have up := depth_parent h (mem_followers.1 mem)
    rw [ih (by omega)]

theorem height_eq (h : TreeLaw s) (i : LaneId) : s.height i = (s.followers i).foldl (fun x j => max x (s.height j + 1)) 0 := by
  unfold State.height
  rw [heightDown_succ]
  refine foldl_congr_mem _ (fun j mem x => ?_) 0
  rw [heightDown_succ_eq h (n := 23) (by omega)]

/-- A parent is higher than its followers. -/
theorem height_lt_of_parent (h : TreeLaw s) {i j : LaneId} (parent : s.parentOf j = some i) : s.height j + 1 ≤ s.height i := by
  rw [height_eq h i]
  exact (le_foldl_max s.height (s.followers i) 0).2 j (mem_followers.2 parent)

/-- The links from a lane down to a descendant are no more than its height. -/
theorem height_of_under (h : TreeLaw s) {i j : LaneId} (under : s.under i j = true) :
    s.height j + (s.depth j - s.depth i) ≤ s.height i := by
  induction d : s.depth j generalizing j with
  | zero =>
    obtain rfl | ⟨p, parent, -⟩ := (under_iff h i j).1 under
    · omega
    · have := depth_parent h parent
      omega
  | succ n ih =>
    obtain rfl | ⟨p, parent, below⟩ := (under_iff h i j).1 under
    · omega
    · have up := depth_parent h parent
      have taller := height_lt_of_parent h parent
      have deeper := depth_le_of_under h below
      have := ih below (by omega)
      omega

end

end Sys2Proof.Chains
end

section
/-! PROOF. The laws of the lane table hold after every step: lawful records (O53), the pool (O54), distinct addresses (O56) and the follow
forest (O57), each by one lemma over the changes of the table. -/

namespace Sys2Proof.TableLaws

open Sys2Proof.Machine Sys2Proof.Safety Sys2Proof.Records Sys2Proof.Chains

section
variable {s t : State}

/-- A property that every change of the table keeps holds after every step. -/
theorem holds_after_step {P : State → Prop} (keeps : ∀ s t, P s → Change s t → P t) (start : P s) (h : step s = .next t) : P t := by
  have trail := trail_step h
  clear h
  induction trail with
  | refl => exact start
  | tail _ change ih => exact keeps _ _ ih change

/-! ## Lane records (R2, R3, R54, R75, R93, R174) -/

theorem laneLaw_writes {i : LaneId} {l' : Lane} (law : LaneLaw s) (writes : WritesLane s t i (some l')) (ok : LaneOk l') :
    LaneLaw t := by
  intro j l lane
  by_cases self : j = i
  · subst self
    rw [writes.lane] at lane
    cases lane
    exact ok
  · rw [writes.others j self] at lane
    exact law j l lane

theorem laneOk_tick {l : Lane} (ok : LaneOk l) : LaneOk { l with timer := tickTimer l.timer } := by
  refine { ok with mode := ?_ }
  have mode := ok.mode
  unfold ModeOk at mode ⊢
  cases hm : l.mode <;> simp_all [tickTimer]

theorem laneLaw_change (s t : State) (law : LaneLaw s) (change : Change s t) : LaneLaw t := by
  cases change with
  | same table => exact fun j l lane => law j l ((table.lanes j).symm.trans lane)
  | put i l l' lane keeps writes => exact laneLaw_writes law writes (keeps.ok (law i l lane))
  | append i l g lane room pool ok writes => exact laneLaw_writes law writes (ok (law i l lane))
  | amend i l l' lane ok address source queue mode writes => exact laneLaw_writes law writes (ok (law i l lane))
  | reparent i l src lane ok accepted writes => exact laneLaw_writes law writes (ok (law i l lane))
  | define i m cfg src setPoint lane ok accepted writes => exact laneLaw_writes law writes ok
  | vacate i l lane free writes =>
    intro j l lane
    by_cases self : j = i
    · rw [self, writes.lane] at lane
      cases lane
    · rw [writes.others j self] at lane
      exact law j l lane
  | tick lanes pool =>
    intro j l lane
    rw [lanes] at lane
    cases before : s.lane j with
    | none => rw [before] at lane; cases lane
    | some m =>
      rw [before] at lane
      cases lane
      exact laneOk_tick (law j m before)
  | clear lanes pool => exact fun j l lane => by rw [lanes] at lane; cases lane

/-- Settles O53: every change of the table leaves lawful records. -/
theorem stepKeepsLaneLaw : Obligations.StepKeepsLaneLaw := fun _ _ law h => holds_after_step laneLaw_change law h

/-! ## The segment pool (R52) -/

theorem poolLaw_writes {i : LaneId} {o : Option Lane} (law : PoolLaw s) (writes : WritesLane s t i o)
    (covered : queueLen o ≤ s.poolFree + queueLen (s.lane i)) : PoolLaw t := by
  refine poolLaw_congr (fun j => ?_) writes.pool (poolLaw_putLane law covered)
  by_cases self : j = i
  · rw [self, writes.lane, State.lane_putLane_self]
  · rw [writes.others j self, State.lane_putLane_of_ne _ _ self]

theorem poolLaw_change (s t : State) (law : PoolLaw s) (change : Change s t) : PoolLaw t := by
  cases change with
  | same table => exact poolLaw_congr table.lanes table.pool law
  | put i l l' lane keeps writes => exact poolLaw_writes law writes (by rw [lane]; exact Nat.le_add_left_of_le keeps.queue)
  | append i l g lane room pool ok writes =>
    refine poolLaw_writes law writes ?_
    rw [lane]
    change (l.queue ++ [g]).length ≤ _ + l.queue.length
    rw [List.length_append, List.length_singleton]
    omega
  | amend i l l' lane ok address source queue mode writes =>
    refine poolLaw_writes law writes ?_
    rw [lane, queueLen, queueLen, queue]
    omega
  | reparent i l src lane ok accepted writes => exact poolLaw_writes law writes (by rw [lane]; exact Nat.le_add_left _ _)
  | define i m cfg src setPoint lane ok accepted writes => exact poolLaw_writes law writes (Nat.zero_le _)
  | vacate i l lane free writes => exact poolLaw_writes law writes (Nat.zero_le _)
  | tick lanes pool =>
    have queues : ∀ j, queueLen (t.lane j) = queueLen (s.lane j) := by
      intro j
      rw [lanes]
      cases s.lane j <;> rfl
    unfold PoolLaw queued at *
    simpa only [pool, queues] using law
  | clear lanes pool =>
    unfold PoolLaw queued
    simp [lanes, pool, queueLen]

/-- Settles O54: every segment that joins or leaves a queue takes or returns its slot. -/
theorem stepKeepsPoolLaw : Obligations.StepKeepsPoolLaw := fun _ _ law h => holds_after_step poolLaw_change law h

/-! ## Drive addresses (R5) -/

/-- An address is taken when another lane that is not VACANT holds it. -/
theorem addressHeld_iff {i : LaneId} {a : Nat} : s.addressHeld i a = true ↔ ∃ j l, j ≠ i ∧ s.lane j = some l ∧ l.cfg.address = a := by
  unfold State.addressHeld
  simp only [List.any_eq_true, mem_allLanes, true_and, Bool.and_eq_true, bne_iff_ne, ne_eq]
  refine exists_congr fun j => ?_
  cases s.lane j <;> simp

/-- A record is written with an address that no other lane holds. -/
theorem addressLaw_writes {i : LaneId} {l' : Lane} (law : AddressLaw s) (writes : WritesLane s t i (some l'))
    (free : ∀ j l, j ≠ i → s.lane j = some l → l.cfg.address ≠ l'.cfg.address) : AddressLaw t := by
  intro j k l m hj hk address
  by_cases hji : j = i <;> by_cases hki : k = i
  · rw [hji, hki]
  · subst hji
    rw [writes.lane] at hj
    rw [writes.others k hki] at hk
    cases hj
    exact absurd address.symm (free k m hki hk)
  · subst hki
    rw [writes.lane] at hk
    rw [writes.others j hji] at hj
    cases hk
    exact absurd address (free j l hji hj)
  · rw [writes.others j hji] at hj
    rw [writes.others k hki] at hk
    exact law j k l m hj hk address

/-- A record is written with the address that its lane holds already. -/
theorem addressLaw_same {i : LaneId} {l l' : Lane} (law : AddressLaw s) (lane : s.lane i = some l)
    (address : l'.cfg.address = l.cfg.address) (writes : WritesLane s t i (some l')) : AddressLaw t :=
  addressLaw_writes law writes fun j m ne hj same => ne (law j i m l hj lane (same.trans address))

theorem addressLaw_change (s t : State) (law : AddressLaw s) (change : Change s t) : AddressLaw t := by
  have unheld : ∀ {i a}, s.addressHeld i a = false → ∀ j l, j ≠ i → s.lane j = some l → l.cfg.address ≠ a :=
    fun free j l ne lane same => Bool.eq_false_iff.1 free (addressHeld_iff.2 ⟨j, l, ne, lane, same⟩)
  cases change with
  | same table =>
    intro i j l m hi hj
    rw [table.lanes] at hi hj
    exact law i j l m hi hj
  | put i l l' lane keeps writes => exact addressLaw_same law lane keeps.address writes
  | append i l g lane room pool ok writes => exact addressLaw_same (l' := { l with queue := l.queue ++ [g] }) law lane rfl writes
  | amend i l l' lane ok address source queue mode writes =>
    obtain same | free := address
    · exact addressLaw_same law lane same writes
    · exact addressLaw_writes law writes (unheld free)
  | reparent i l src lane ok accepted writes => exact addressLaw_same (l' := l.setSource src) law lane rfl writes
  | define i m cfg src setPoint lane ok accepted writes =>
    refine addressLaw_writes law writes (unheld (Bool.eq_false_iff.2 fun held => ?_))
    unfold State.defineRefusal at accepted
    rw [if_pos (show s.addressHeld i cfg.address = true from held)] at accepted
    cases accepted
  | vacate i l lane free writes =>
    intro j k l m hj hk
    have other : ∀ {x y}, t.lane x = some y → s.lane x = some y := by
      intro x y h
      by_cases self : x = i
      · rw [self, writes.lane] at h
        cases h
      · rwa [writes.others x self] at h
    exact law j k l m (other hj) (other hk)
  | tick lanes pool =>
    intro i j l m hi hj address
    have before : ∀ {x y}, t.lane x = some y → ∃ z, s.lane x = some z ∧ z.cfg.address = y.cfg.address := by
      intro x y h
      rw [lanes] at h
      cases hz : s.lane x with
      | none => rw [hz] at h; cases h
      | some z => rw [hz] at h; cases h; exact ⟨z, rfl, rfl⟩
    obtain ⟨l', hi', ei⟩ := before hi
    obtain ⟨m', hj', ej⟩ := before hj
    exact law i j l' m' hi' hj' (ei.trans (address.trans ej.symm))
  | clear lanes pool => exact fun i j l m hi => by rw [lanes] at hi; cases hi

/-- Settles O56: an address is written by DEFINE_LANE and AMEND_LANE alone, and only one that no other lane holds. -/
theorem stepKeepsAddressLaw : Obligations.StepKeepsAddressLaw := fun _ _ law h => holds_after_step addressLaw_change law h

/-! ## The follow forest (R79) -/

theorem parentOf_writes_of_ne {i j : LaneId} {o : Option Lane} (writes : WritesLane s t i o) (ne : j ≠ i) :
    t.parentOf j = s.parentOf j := by
  simp only [State.parentOf, writes.others j ne]

theorem inService_writes_of_ne {i p : LaneId} {o : Option Lane} (writes : WritesLane s t i o) (ne : p ≠ i) (h : InService s p) :
    InService t p := by
  obtain ⟨l, lane, service⟩ := h
  exact ⟨l, (writes.others p ne).trans lane, service⟩

/-- The same parents, and every lane in service still in service. -/
theorem treeLaw_of_same (law : TreeLaw s) (parents : ∀ j, t.parentOf j = s.parentOf j) (service : ∀ p, InService s p → InService t p) :
    TreeLaw t :=
  treeLaw_of_rank s.depth (depth_le law) (fun j p h => by
      have up := depth_parent law ((parents j).symm.trans h)
      omega)
    fun j p h => service p ((treeLaw_iff.1 law).2 j p ((parents j).symm.trans h))

/-- A record of the same parent, in service if the old one was. -/
theorem treeLaw_put {i : LaneId} {l l' : Lane} (law : TreeLaw s) (lane : s.lane i = some l) (writes : WritesLane s t i (some l'))
    (parent : l'.source.link.map (·.parent) = l.source.link.map (·.parent))
    (service : (∀ m, l.mode ≠ .defining m) → ∀ m, l'.mode ≠ .defining m) : TreeLaw t := by
  refine treeLaw_of_same law (fun j => ?_) (fun p h => ?_)
  · by_cases self : j = i
    · rw [self, parentOf_of_lane writes.lane, parentOf_of_lane lane, parent]
    · exact parentOf_writes_of_ne writes self
  · by_cases self : p = i
    · subst self
      obtain ⟨m, lane', free⟩ := h
      rw [lane] at lane'
      cases lane'
      exact ⟨l', writes.lane, service free⟩
    · exact inService_writes_of_ne writes self h

/-- What the structure checks accept of a parent (R10, R82). -/
theorem parentRefusal_eq_none {cycle : Bool} {parent : LaneId} {height : Nat} (h : s.parentRefusal cycle parent height = none) :
    cycle = false ∧ InService s parent ∧ s.depth parent + 1 + height ≤ 4 := by
  unfold State.parentRefusal at h
  split at h
  · cases h
  · next free =>
    refine ⟨Bool.eq_false_iff.2 free, ?_⟩
    have shallow : ∀ {d : Nat}, (if Config.depthMax < d then some Result.depth else none) = none → d ≤ 4 := by
      intro d h
      split at h
      · cases h
      · next le => exact Nat.le_of_not_lt le
    split at h
    · cases h
    · next l lane =>
      split at h
      case h_1 => cases h
      all_goals next mode => exact ⟨⟨l, lane, by rw [mode]; exact nofun⟩, shallow h⟩

/-- A lane becomes VACANT that no lane follows. -/
theorem treeLaw_vacate {i : LaneId} (law : TreeLaw s) (writes : WritesLane s t i none) (unfollowed : ∀ j, s.parentOf j ≠ some i) :
    TreeLaw t := by
  have before : ∀ j p, t.parentOf j = some p → s.parentOf j = some p := by
    intro j p h
    by_cases self : j = i
    · rw [self, parentOf_of_vacant writes.lane] at h
      cases h
    · rwa [parentOf_writes_of_ne writes self] at h
  refine treeLaw_of_rank s.depth (depth_le law) (fun j p h => ?_) (fun j p h => ?_)
  · have up := depth_parent law (before j p h)
    omega
  · have parent := before j p h
    exact inService_writes_of_ne writes (fun e => unfollowed j (e ▸ parent)) ((treeLaw_iff.1 law).2 j p parent)

/-- A lane in service is given another parent: the lanes below it move with it, and stand no deeper than its height allows (R82). -/
theorem treeLaw_reparent {i : LaneId} {l : Lane} {src : Source} (law : TreeLaw s) (lane : s.lane i = some l)
    (accepted : s.sourceRefusal i src = none) (writes : WritesLane s t i (some (l.setSource src))) : TreeLaw t := by
  have service : ∀ p, InService s p → InService t p := by
    intro p h
    by_cases self : p = i
    · subst self
      obtain ⟨m, lane', free⟩ := h
      rw [lane] at lane'
      cases lane'
      exact ⟨_, writes.lane, free⟩
    · exact inService_writes_of_ne writes self h
  have self : t.parentOf i = src.link.map (·.parent) := parentOf_of_lane writes.lane
  have others : ∀ j, j ≠ i → t.parentOf j = s.parentOf j := fun j ne => parentOf_writes_of_ne writes ne
  cases src with
  | fixed =>
    have before : ∀ j p, t.parentOf j = some p → s.parentOf j = some p := by
      intro j p h
      by_cases e : j = i
      · rw [e, self] at h
        cases h
      · rwa [others j e] at h
    refine treeLaw_of_rank s.depth (depth_le law) (fun j p h => ?_) (fun j p h => service p ((treeLaw_iff.1 law).2 j p (before j p h)))
    have up := depth_parent law (before j p h)
    omega
  | follow k =>
    obtain ⟨acyclic, parentServes, shallow⟩ := parentRefusal_eq_none accepted
    have rises : ∀ j p, s.parentOf j = some p → s.under i p = true → s.under i j = true :=
      fun j p parent below => (under_iff law i j).2 (.inr ⟨p, parent, below⟩)
    refine treeLaw_of_rank (fun j => if s.under i j then s.depth k.parent + 1 + (s.depth j - s.depth i) else s.depth j)
      (fun j => ?_) (fun j p h => ?_) (fun j p h => ?_)
    · split
      · next below =>
        have := height_of_under law below
        omega
      · exact depth_le law j
    · by_cases e : j = i
      · subst e
        rw [self] at h
        obtain rfl : k.parent = p := by simpa [Source.link] using h
        have root : s.under j j = true := (under_iff law j j).2 (.inl rfl)
        simp only [acyclic, root, if_true]
        simp
      · rw [others j e] at h
        have up := depth_parent law h
        by_cases below : s.under i p = true
        · have deeper := depth_le_of_under law below
          simp only [below, rises j p h below, if_true]
          omega
        · have above : ¬ s.under i j = true := fun under => by
            obtain e' | ⟨q, parent, under⟩ := (under_iff law i j).1 under
            · exact e e'
            · rw [h] at parent
              cases parent
              exact below under
          simp only [Bool.not_eq_true] at below above
          simp only [below, above, Bool.false_eq_true, if_false]
          omega
    · by_cases e : j = i
      · subst e
        rw [self] at h
        obtain rfl : k.parent = p := by simpa [Source.link] using h
        exact service _ parentServes
      · rw [others j e] at h
        exact service p ((treeLaw_iff.1 law).2 j p h)

/-- A VACANT lane is defined below a lane in service: no lane follows it yet (R10). -/
theorem treeLaw_define {i : LaneId} {m : Marker} {cfg : LaneCfg} {src : Source} {setPoint : Int} (law : TreeLaw s)
    (lane : s.lane i = none) (accepted : s.defineRefusal i cfg src = none)
    (writes : WritesLane s t i (some (Lane.defined m cfg src setPoint))) : TreeLaw t := by
  have unfollowed : ∀ j, s.parentOf j ≠ some i := by
    intro j parent
    obtain ⟨l, present, -⟩ := (treeLaw_iff.1 law).2 j i parent
    rw [lane] at present
    cases present
  have self : t.parentOf i = src.link.map (·.parent) := parentOf_of_lane writes.lane
  have others : ∀ j, j ≠ i → t.parentOf j = s.parentOf j := fun j ne => parentOf_writes_of_ne writes ne
  have service : ∀ j p, s.parentOf j = some p → InService t p := fun j p parent =>
    inService_writes_of_ne writes (fun e => unfollowed j (e ▸ parent)) ((treeLaw_iff.1 law).2 j p parent)
  unfold State.defineRefusal at accepted
  split at accepted
  · cases accepted
  · cases src with
    | fixed =>
      have before : ∀ j p, t.parentOf j = some p → s.parentOf j = some p := by
        intro j p h
        by_cases e : j = i
        · rw [e, self] at h
          cases h
        · rwa [others j e] at h
      refine treeLaw_of_rank s.depth (depth_le law) (fun j p h => ?_) (fun j p h => service j p (before j p h))
      have up := depth_parent law (before j p h)
      omega
    | follow k =>
      obtain ⟨apart, parentServes, shallow⟩ := parentRefusal_eq_none accepted
      have apart : k.parent ≠ i := beq_eq_false_iff_ne.1 apart
      refine treeLaw_of_rank (fun j => if j = i then s.depth k.parent + 1 else s.depth j) (fun j => ?_) (fun j p h => ?_)
        (fun j p h => ?_)
      · split
        · omega
        · exact depth_le law j
      · by_cases e : j = i
        · subst e
          rw [self] at h
          obtain rfl : k.parent = p := by simpa [Source.link] using h
          simp [apart]
        · rw [others j e] at h
          have up := depth_parent law h
          have ne : p ≠ i := fun e' => unfollowed j (e' ▸ h)
          simp only [e, ne, if_false]
          omega
      · by_cases e : j = i
        · subst e
          rw [self] at h
          obtain rfl : k.parent = p := by simpa [Source.link] using h
          exact inService_writes_of_ne writes apart parentServes
        · rw [others j e] at h
          exact service j p h

theorem treeLaw_change (s t : State) (law : TreeLaw s) (change : Change s t) : TreeLaw t := by
  cases change with
  | same table =>
    refine treeLaw_of_same law (fun j => parentOf_congr table.lanes j) fun p h => ?_
    obtain ⟨l, lane, service⟩ := h
    exact ⟨l, (table.lanes p).trans lane, service⟩
  | put i l l' lane keeps writes => exact treeLaw_put law lane writes keeps.parent keeps.service
  | append i l g lane room pool ok writes => exact treeLaw_put law lane writes rfl id
  | amend i l l' lane ok address source queue mode writes =>
    exact treeLaw_put law lane writes (by rw [source]) fun free => by rwa [mode]
  | reparent i l src lane ok accepted writes => exact treeLaw_reparent law lane accepted writes
  | define i m cfg src setPoint lane ok accepted writes => exact treeLaw_define law lane accepted writes
  | vacate i l lane free writes =>
    refine treeLaw_vacate law writes fun j parent => ?_
    obtain ⟨m, defining⟩ | followers := free
    · obtain ⟨l', lane', service⟩ := (treeLaw_iff.1 law).2 j i parent
      rw [lane] at lane'
      cases lane'
      exact service m defining
    · exact followerCount_eq_zero_iff.1 followers j parent
  | tick lanes pool =>
    refine treeLaw_of_same law (fun j => ?_) fun p h => ?_
    · simp only [State.parentOf, lanes]
      cases s.lane j <;> rfl
    · obtain ⟨l, lane, service⟩ := h
      exact ⟨{ l with timer := tickTimer l.timer }, by rw [lanes, lane]; rfl, service⟩
  | clear lanes pool =>
    have alone : ∀ j p, t.parentOf j ≠ some p := fun j p h => by
      rw [parentOf_of_vacant (lanes j)] at h
      cases h
    exact treeLaw_of_rank (fun _ => 0) (fun _ => Nat.zero_le _) (fun j p h => absurd h (alone j p)) fun j p h => absurd h (alone j p)

/-- Settles O57: a parent is written by DEFINE_LANE and SET_SOURCE alone, after the structure checks, and none becomes VACANT. -/
theorem stepKeepsTreeLaw : Obligations.StepKeepsTreeLaw := fun _ _ law h => holds_after_step treeLaw_change law h

end

end Sys2Proof.TableLaws
end

section
/-! PROOF. The laws of one port (section 7.4, R124, R126, R188), and what every operation on a port keeps of them. -/

namespace Sys2Proof.PortLaws

open Sys2Proof.Machine Sys2Proof.Safety

/-! ## Masked sets (R188) -/

theorem keep_idem (m : BitVec 10) (a : LaneAttn) : (a.keep m).keep m = a.keep m := by
  unfold LaneAttn.keep
  simp only [LaneAttn.mk.injEq, ← Bool.and_assoc, Bool.and_self, and_true]
  have idem : ∀ {α : Type} (x : Bool) (o : Option α), (if x then (if x then o else none) else none) = if x then o else none := by
    intro α x o
    cases x <;> rfl
  simp only [idem, and_self]

theorem keep_comm (m n : BitVec 10) (a : LaneAttn) : (a.keep m).keep n = (a.keep n).keep m := by
  have swap : ∀ {α : Type} (x y : Bool) (o : Option α),
      (if y then (if x then o else none) else none) = if x then (if y then o else none) else none := by
    intro α x y o
    cases x <;> cases y <;> rfl
  unfold LaneAttn.keep
  simp only [Bool.and_left_comm, swap]

/-- An entry of an enabled kind joins a set free of masked kinds. -/
theorem keep_take {m : BitVec 10} {a : LaneAttn} (r : LaneReport) (enabled : m.getLsbD r.kind = true) (clean : a.keep m = a) :
    (a.take r).keep m = a.take r := by
  unfold LaneAttn.keep at clean ⊢
  cases a
  simp only [LaneAttn.mk.injEq] at clean
  cases r <;> simp_all [LaneAttn.take, LaneReport.kind]

theorem keep_empty (m : BitVec 10) : LaneAttn.empty.keep m = LaneAttn.empty := by
  simp [LaneAttn.keep, LaneAttn.empty]

theorem lanes_keep (m : BitVec 10) (a : AttnSet) (i : LaneId) : (a.keep m).lanes[i] = (a.lanes[i]).keep m := by
  simp [AttnSet.keep]

/-- A set is free of masked kinds entry by entry. -/
theorem attnSet_keep_iff {m : BitVec 10} {a : AttnSet} : a.keep m = a ↔
    (a.lapsed = true → m.getLsbD 8 = true) ∧ (a.overrun = true → m.getLsbD 9 = true) ∧ ∀ i : LaneId, (a.lanes[i]).keep m = a.lanes[i] := by
  have absorbs : ∀ x y : Bool, (x && y) = y ↔ (y = true → x = true) := by decide
  constructor
  · intro clean
    refine ⟨(absorbs _ _).1 (congrArg AttnSet.lapsed clean), (absorbs _ _).1 (congrArg AttnSet.overrun clean), fun i => ?_⟩
    rw [← lanes_keep, clean]
  · rintro ⟨lapsed, overrun, lanes⟩
    have same : (a.keep m).lanes = a.lanes := by
      ext j hj : 1
      exact (lanes_keep m a ⟨j, hj⟩).trans (lanes ⟨j, hj⟩)
    cases a
    simp only [AttnSet.keep, AttnSet.mk.injEq] at same ⊢
    exact ⟨(absorbs _ _).2 lapsed, (absorbs _ _).2 overrun, same⟩

/-- One lane's entries are rewritten to clean ones. -/
theorem keep_onLane {m : BitVec 10} {a : AttnSet} (i : LaneId) (f : LaneAttn → LaneAttn) (clean : a.keep m = a)
    (entries : (a.lanes[i]).keep m = a.lanes[i] → (f a.lanes[i]).keep m = f a.lanes[i]) : (a.onLane i f).keep m = a.onLane i f := by
  obtain ⟨lapsed, overrun, lanes⟩ := attnSet_keep_iff.1 clean
  refine attnSet_keep_iff.2 ⟨lapsed, overrun, fun j => ?_⟩
  rw [AttnSet.lanes_onLane]
  split
  · exact entries (lanes i)
  · exact lanes j

theorem keep_ack {m : BitVec 10} {a : AttnSet} (lane kind : Byte) (clean : a.keep m = a) : (a.ack lane kind).keep m = a.ack lane kind := by
  obtain ⟨lapsed, overrun, lanes⟩ := attnSet_keep_iff.1 clean
  unfold AttnSet.ack
  split
  · exact attnSet_keep_iff.2 ⟨nofun, overrun, lanes⟩
  · split
    · exact attnSet_keep_iff.2 ⟨lapsed, nofun, lanes⟩
    · split
      · next i _ =>
        refine keep_onLane i _ clean fun entries => ?_
        unfold LaneAttn.remove
        rw [keep_comm, entries]
      · exact clean

theorem keep_ackAll {m : BitVec 10} {a : AttnSet} (pairs : List (Byte × Byte)) (clean : a.keep m = a) :
    (a.ackAll pairs).keep m = a.ackAll pairs := by
  unfold AttnSet.ackAll
  induction pairs generalizing a with
  | nil => exact clean
  | cons x pairs ih => exact ih (keep_ack x.1 x.2 clean)

/-- What a mask leaves in a set is free of its masked kinds. -/
theorem keep_keep (m : BitVec 10) (a : AttnSet) : (a.keep m).keep m = a.keep m :=
  attnSet_keep_iff.2 ⟨fun h => (Bool.and_eq_true _ _ ▸ h).1, fun h => (Bool.and_eq_true _ _ ▸ h).1, fun i => by rw [lanes_keep, keep_idem]⟩

theorem attnSet_keep_empty (m : BitVec 10) : AttnSet.empty.keep m = AttnSet.empty :=
  attnSet_keep_iff.2 ⟨nofun, nofun, fun i => by simp [AttnSet.empty, keep_empty]⟩

/-! ## The laws of one port -/

/-- What the laws of the ports say of one port. -/
structure PortLaw (p : Port) : Prop where
  strikes : p.strikes ≤ 5
  barred : p.barred = true ↔ p.strikes = 5
  nodup : p.order.Nodup
  occupied : ∀ k : SlotId, k ∈ p.order ↔ p.slots[k].isFree = false
  period : p.lease.period ≤ 255
  lapsed : p.lease.lapsed = true → p.lease.timer = none
  off : p.lease.period = 0 → p.lease.timer = none
  mask : p.attn.keep p.mask = p.attn

theorem portLaw_iff {s : State} : (StrikeLaw s ∧ SlotLaw s ∧ LeaseLaw s ∧ MaskLaw s) ↔ ∀ p, PortLaw (s.port p) := by
  constructor
  · rintro ⟨strike, slot, lease, mask⟩ p
    exact ⟨(strike p).1, (strike p).2, (slot p).1, (slot p).2, (lease p).1, (lease p).2.1, (lease p).2.2, mask p⟩
  · intro law
    exact ⟨fun p => ⟨(law p).strikes, (law p).barred⟩, fun p => ⟨(law p).nodup, (law p).occupied⟩,
      fun p => ⟨(law p).period, (law p).lapsed, (law p).off⟩, fun p => (law p).mask⟩

/-- The head of the delivery order is ANSWERED with this response (R149). -/
theorem headResponse_eq_some_iff {p : Port} {k : SlotId} {r : Response} :
    p.headResponse = some (k, r) ↔ ∃ rest, p.order = k :: rest ∧ p.slots[k] = .answered r := by
  unfold Port.headResponse
  cases p.order with
  | nil => simp
  | cons j rest =>
    constructor
    · intro h
      dsimp only at h
      split at h
      · next r' answered =>
        cases h
        exact ⟨rest, rfl, answered⟩
      all_goals cases h
    · rintro ⟨rest, order, answered⟩
      cases order
      simp only [answered]

/-- An operation on a port keeps its laws and the response at the head of its order. -/
structure PortKeeps (p q : Port) : Prop where
  law : PortLaw p → PortLaw q
  head : ∀ k r, p.headResponse = some (k, r) → q.headResponse = some (k, r)

/-- The EXECUTING slots of a port and its discard list stand (R156). -/
structure SameWaiting (p q : Port) : Prop where
  executing : ∀ (k : SlotId) x f, q.slots[k] = .executing x f ↔ p.slots[k] = .executing x f
  discard : q.discard = p.discard

section
variable {p q r : Port}

theorem PortKeeps.refl (p : Port) : PortKeeps p p := ⟨id, fun _ _ h => h⟩

theorem PortKeeps.trans (h : PortKeeps p q) (g : PortKeeps q r) : PortKeeps p r :=
  ⟨fun law => g.law (h.law law), fun k x e => g.head k x (h.head k x e)⟩

theorem SameWaiting.refl (p : Port) : SameWaiting p p := ⟨fun _ _ _ => Iff.rfl, rfl⟩

theorem SameWaiting.trans (h : SameWaiting p q) (g : SameWaiting q r) : SameWaiting p r :=
  ⟨fun k x f => (g.executing k x f).trans (h.executing k x f), g.discard.trans h.discard⟩

theorem SameWaiting.of_same (slots : q.slots = p.slots) (discard : q.discard = p.discard) : SameWaiting p q :=
  ⟨fun k x f => by rw [slots], discard⟩

/-- An operation that leaves the slots and the order. -/
theorem PortKeeps.of_same (slots : q.slots = p.slots) (order : q.order = p.order) (law : PortLaw p → PortLaw q) : PortKeeps p q := by
  refine ⟨law, fun k x h => ?_⟩
  obtain ⟨rest, head, answered⟩ := headResponse_eq_some_iff.1 h
  exact headResponse_eq_some_iff.2 ⟨rest, by rw [order, head], by rw [slots, answered]⟩

end

/-! ## Operations on a port -/

theorem portKeeps_attn {p : Port} {a : AttnSet} (clean : p.attn.keep p.mask = p.attn → a.keep p.mask = a) :
    PortKeeps p { p with attn := a } :=
  .of_same rfl rfl fun law => { law with mask := clean law.mask }

theorem portKeeps_takeLane (p : Port) (i : LaneId) (r : LaneReport) : PortKeeps p (p.takeLane i r) := by
  unfold Port.takeLane
  split
  · next enabled => exact portKeeps_attn fun clean => keep_onLane i _ clean (keep_take r enabled)
  · exact .refl p

theorem portKeeps_takeOverrun (p : Port) : PortKeeps p p.takeOverrun := by
  unfold Port.takeOverrun
  split
  · next enabled =>
    refine portKeeps_attn fun clean => ?_
    obtain ⟨lapsed, -, lanes⟩ := attnSet_keep_iff.1 clean
    exact attnSet_keep_iff.2 ⟨lapsed, fun _ => enabled, lanes⟩
  · exact .refl p

theorem portKeeps_takeLapsed (p : Port) : PortKeeps p p.takeLapsed := by
  unfold Port.takeLapsed
  split
  · next enabled =>
    refine portKeeps_attn fun clean => ?_
    obtain ⟨-, overrun, lanes⟩ := attnSet_keep_iff.1 clean
    exact attnSet_keep_iff.2 ⟨fun _ => enabled, overrun, lanes⟩
  · exact .refl p

theorem portKeeps_dropLane (p : Port) (i : LaneId) : PortKeeps p (p.dropLane i) :=
  portKeeps_attn fun clean => keep_onLane i _ clean fun _ => keep_empty _

theorem portKeeps_setMask (p : Port) (m : BitVec 10) : PortKeeps p (p.setMask m) :=
  .of_same rfl rfl fun law => { law with mask := keep_keep m p.attn }

theorem portKeeps_lapse (p : Port) : PortKeeps p p.lapse :=
  PortKeeps.trans (q := { p with lease := { p.lease with lapsed := true, timer := none } })
    (.of_same rfl rfl fun law => { law with lapsed := fun _ => rfl, off := fun _ => rfl }) (portKeeps_takeLapsed _)

theorem portKeeps_tick (p : Port) : PortKeeps p p.tick :=
  .of_same rfl rfl fun law => { law with
    lapsed := fun h => by rw [Port.tick, law.lapsed h]; rfl
    off := fun h => by rw [Port.tick, law.off h]; rfl }

theorem leaseTicks_zero {n : Nat} (h : n = 0) : leaseTicks n = none := if_pos h

theorem portKeeps_setPeriod (p : Port) (b : Byte) : PortKeeps p { p with lease := p.lease.setPeriod b.toNat } :=
  .of_same rfl rfl fun law => { law with
    period := Nat.le_of_lt_succ b.isLt
    lapsed := fun h => by
      change (if p.lease.lapsed then p.lease.timer else _) = none
      rw [if_pos (show p.lease.lapsed = true from h), law.lapsed h]
    off := fun h => by
      change (if p.lease.lapsed then p.lease.timer else leaseTicks b.toNat) = none
      split
      · next lapsed => exact law.lapsed lapsed
      · exact leaseTicks_zero h }

theorem portKeeps_strike {p : Port} (free : p.barred = false) : PortKeeps p p.strike := by
  refine .of_same rfl rfl fun law => { law with strikes := ?_, barred := ?_ }
  all_goals
    have below : p.strikes ≠ 5 := fun full => by simp [law.barred.2 full] at free
    have := law.strikes
  · change p.strikes + 1 ≤ 5
    omega
  · change (p.barred || decide (5 ≤ p.strikes + 1)) = true ↔ p.strikes + 1 = 5
    simp only [free, Bool.false_or, decide_eq_true_eq]
    omega

theorem portKeeps_clearStrikes {p : Port} (free : p.barred = false) : PortKeeps p p.clearStrikes :=
  .of_same rfl rfl fun law => { law with
    strikes := Nat.zero_le 5
    barred := by rw [Port.clearStrikes_barred, free]; exact ⟨nofun, nofun⟩ }

/-- A slot that is occupied and not ANSWERED takes another occupied value. -/
theorem portKeeps_setSlot {p : Port} {k : SlotId} {x : Slot} (occupied : p.slots[k].isFree = false)
    (unanswered : ∀ r, p.slots[k] ≠ .answered r) (busy : x.isFree = false) : PortKeeps p (p.setSlot k x) := by
  refine ⟨fun law => { law with occupied := fun j => ?_ }, fun j r h => ?_⟩
  · rw [Port.slots_setSlot]
    split
    · next e => rw [e]; exact ⟨fun _ => busy, fun _ => (law.occupied k).2 occupied⟩
    · exact law.occupied j
  · obtain ⟨rest, order, answered⟩ := headResponse_eq_some_iff.1 h
    refine headResponse_eq_some_iff.2 ⟨rest, order, ?_⟩
    have ne : j ≠ k := fun e => unanswered r (by rw [← e, answered])
    rw [Port.slots_setSlot, if_neg ne, answered]

theorem portKeeps_answer (p : Port) (k : SlotId) (r : Result) (payload : List Byte) : PortKeeps p (p.answer k r payload) := by
  unfold Port.answer
  split
  · next q f executing =>
    have set := portKeeps_setSlot (p := p) (k := k) (x := .answered
      { seq := q.seq, code := q.code, result := r, lapsed := f, duplicate := false, payload := payload })
      (by rw [executing]; rfl) (by rw [executing]; exact nofun) rfl
    exact set.trans (.of_same rfl rfl fun law => { law with })
  all_goals exact .refl p

theorem portKeeps_answerLong (p : Port) (i : LaneId) (k : SlotId) (r : Result) (payload : List Byte) :
    PortKeeps p (p.answerLong i k r payload) := by
  unfold Port.answerLong
  split
  · exact .of_same rfl rfl fun law => { law with }
  · exact portKeeps_answer ..

theorem freeSlot_spec {p : Port} {k : SlotId} (h : p.freeSlot = some k) : p.slots[k] = .free := by
  unfold Port.freeSlot at h
  have free := List.find?_some h
  revert free
  cases p.slots[k] <;> simp [Slot.isFree]

/-- A frame takes a FREE slot (R148). -/
theorem portKeeps_occupy {p : Port} {k : SlotId} {x : Bool → Slot} (free : p.slots[k] = .free) (busy : ∀ b, (x b).isFree = false) :
    PortKeeps p (p.occupy k x) := by
  refine ⟨fun law => ?_, fun j r h => ?_⟩
  · have new : k ∉ p.order := fun mem => by
      have occupied := (law.occupied k).1 mem
      rw [free] at occupied
      cases occupied
    refine { law with nodup := ?_, occupied := fun j => ?_, lapsed := nofun, off := fun h => leaseTicks_zero h }
    · exact List.nodup_append.2 ⟨law.nodup, List.nodup_singleton k, fun a ha b hb e => new (by rwa [← List.mem_singleton.1 hb, ← e])⟩
    · change j ∈ p.order ++ [k] ↔ (p.setSlot k _).slots[j].isFree = false
      rw [Port.slots_setSlot, List.mem_append, List.mem_singleton]
      split
      · next e => exact ⟨fun _ => busy _, fun _ => .inr e⟩
      · next ne => rw [or_iff_left ne]; exact law.occupied j
  · obtain ⟨rest, order, answered⟩ := headResponse_eq_some_iff.1 h
    refine headResponse_eq_some_iff.2 ⟨rest ++ [k], ?_, ?_⟩
    · change p.order ++ [k] = _
      rw [order]
      rfl
    · change (p.setSlot k _).slots[j] = _
      have ne : j ≠ k := fun e => by
        rw [e, free] at answered
        cases answered
      rw [Port.slots_setSlot, if_neg ne, answered]

theorem portKeeps_arrive (p : Port) (q : Request) : PortKeeps p (p.arrive q) := by
  unfold Port.arrive
  split
  · exact .refl p
  · split
    · exact portKeeps_takeOverrun p
    · next k free => exact portKeeps_occupy (freeSlot_spec free) fun _ => rfl
  · split
    · exact portKeeps_takeOverrun p
    · next k free => exact (portKeeps_occupy (freeSlot_spec free) fun _ => rfl).trans (.of_same rfl rfl fun law => { law with })

/-! ## What leaves the waiting requests of a port -/

theorem sameWaiting_takeLane (p : Port) (i : LaneId) (r : LaneReport) : SameWaiting p (p.takeLane i r) :=
  .of_same (p.takeLane_slots i r) (p.takeLane_discard i r)

theorem sameWaiting_takeOverrun (p : Port) : SameWaiting p p.takeOverrun := .of_same p.takeOverrun_slots p.takeOverrun_discard

theorem sameWaiting_lapse (p : Port) : SameWaiting p p.lapse := .of_same (Port.takeLapsed_slots _) (Port.takeLapsed_discard _)

/-- A slot that is not EXECUTING takes another value that is not. -/
theorem sameWaiting_setSlot {p : Port} {k : SlotId} {x : Slot} (before : ∀ q f, p.slots[k] ≠ .executing q f)
    (after : ∀ q f, x ≠ .executing q f) : SameWaiting p (p.setSlot k x) := by
  refine ⟨fun j q f => ?_, rfl⟩
  rw [Port.slots_setSlot]
  split
  · next e => rw [e]; exact ⟨fun h => absurd h (after q f), fun h => absurd h (before q f)⟩
  · exact Iff.rfl

theorem sameWaiting_arrive (p : Port) (q : Request) : SameWaiting p (p.arrive q) := by
  have occupies : ∀ {k : SlotId} {x : Bool → Slot}, p.freeSlot = some k → (∀ q f, x p.lease.lapsed ≠ .executing q f) →
      SameWaiting p (p.occupy k x) := fun free after =>
    (sameWaiting_setSlot (by rw [freeSlot_spec free]; exact fun _ _ e => nomatch e) after).trans (.of_same rfl rfl)
  unfold Port.arrive
  split
  · exact .refl p
  · split
    · exact sameWaiting_takeOverrun p
    · next k free => exact occupies free (by intro _ _ e; cases e)
  · split
    · exact sameWaiting_takeOverrun p
    · next k free => exact (occupies free (by intro _ _ e; cases e)).trans (.of_same rfl rfl)

/-- An ANSWERED slot is delivered. -/
theorem sameWaiting_deliver {p : Port} {k : SlotId} {r : Response} (answered : p.slots[k] = .answered r) :
    SameWaiting p (p.deliver k) :=
  (sameWaiting_setSlot (by rw [answered]; intro _ _ e; cases e) (by intro _ _ e; cases e)).trans (.of_same rfl rfl)

/-! ## Deliveries and resets -/

theorem portLaw_deliver {p : Port} (k : SlotId) (law : PortLaw p) : PortLaw (p.deliver k) := by
  refine { law with nodup := law.nodup.filter _, occupied := fun j => ?_ }
  change j ∈ p.order.filter (· != k) ↔ (p.setSlot k .free).slots[j].isFree = false
  rw [Port.slots_setSlot, List.mem_filter, law.occupied j]
  by_cases e : j = k
  · simp [e, Slot.isFree]
  · simp [e]

theorem isFree_replicate (k : SlotId) : ((Vector.replicate 4 Slot.free)[k]).isFree = true := by
  simp [Slot.isFree]

theorem portLaw_portReset {p : Port} (law : PortLaw p) : PortLaw p.portReset where
  strikes := law.strikes
  barred := law.barred
  nodup := List.nodup_nil
  occupied k := by
    change k ∈ [] ↔ ((Vector.replicate 4 Slot.free)[k]).isFree = false
    rw [isFree_replicate]
    simp
  period := law.period
  lapsed := nofun
  off h := leaseTicks_zero h
  mask := attnSet_keep_empty _

theorem portLaw_resetN {p : Port} (law : PortLaw p) : PortLaw p.resetN where
  strikes := law.strikes
  barred := law.barred
  nodup := List.nodup_nil
  occupied k := by
    change k ∈ [] ↔ ((Vector.replicate 4 Slot.free)[k]).isFree = false
    rw [isFree_replicate]
    simp
  period := Nat.zero_le _
  lapsed := nofun
  off _ := rfl
  mask := attnSet_keep_empty _

theorem portLaw_powerOn : PortLaw Port.powerOn where
  strikes := Nat.zero_le _
  barred := ⟨nofun, nofun⟩
  nodup := List.nodup_nil
  occupied k := by
    change k ∈ [] ↔ ((Vector.replicate 4 Slot.free)[k]).isFree = false
    rw [isFree_replicate]
    simp
  period := Nat.zero_le _
  lapsed := nofun
  off _ := rfl
  mask := attnSet_keep_empty _

end Sys2Proof.PortLaws
end

section
/-! PROOF. The pending frame list seen lane by lane, and the changes that leave every pending operation and every waiting request as it
is. -/

namespace Sys2Proof.Pending

open Sys2Proof.Machine Sys2Proof.Safety Sys2Proof.Requests Sys2Proof.PortLaws

/-! ## One lane's part of the frame law (R163 to R167) -/

/-- What the frame law and the waiting requests read of a lane record: its drive address, whether it is DEFINING, and the marker of its
pending operation (R6). -/
structure Standing where
  address : Nat
  defining : Bool
  marker : Option Marker

/-- The lane is DEFINING. -/
def isDefining (m : Mode) : Bool :=
  match m with
  | .defining _ => true
  | .standby => false
  | .active _ _ => false
  | .stopping _ => false
  | .tripped _ _ _ _ => false

/-- What a lane record shows of itself to the frame law. -/
def standingOf (l : Lane) : Standing := { address := l.cfg.address, defining := isDefining l.mode, marker := markerOf l.mode }

/-- A lane as the frame law sees it; none is VACANT. -/
def standingAt (s : State) (i : LaneId) : Option Standing := (s.lane i).map standingOf

/-- The kinds of a lane's entries, oldest first. -/
def entriesIn (frames : List Entry) (i : LaneId) : List FrameKind := (frames.filter fun e => e.lane == i).map (·.kind)

/-- The kind and the address of the transaction in flight, if it is this lane's and not stale. -/
def flightIn (link : Link) (i : LaneId) : Option (FrameKind × Nat) :=
  match inFlight link with
  | some x => if x.lane = i ∧ x.stale = false then some (x.kind, x.address) else none
  | none => none

/-- The control frames among a lane's entries and its transaction in flight. -/
def controlsIn (entries : List FrameKind) (flight : Option (FrameKind × Nat)) : List FrameKind :=
  entries.filter isControl ++ (match flight with
    | some (k, _) => if isControl k then [k] else []
    | none => [])

/-- The control frame that a pending operation calls for (R166): IDENT with its try in DEFINING, CLEAR elsewhere. -/
def callsFor (defining : Bool) (k : FrameKind) : Prop :=
  match k with
  | .ident n => defining = true ∧ 1 ≤ n ∧ n ≤ 3
  | .clear => defining = false
  | .ref => False

/-- One lane's part of the frame law, for a lane that is not VACANT. -/
structure FramesOk (st : Standing) (entries : List FrameKind) (flight : Option (FrameKind × Nat)) : Prop where
  once : entries.count .ref ≤ 1
  quiet : st.defining = true → .ref ∉ entries ∧ ∀ a, flight ≠ some (.ref, a)
  address : ∀ k a, flight = some (k, a) → a = st.address
  free : st.marker = none → controlsIn entries flight = []
  pending : st.marker ≠ none → ∃ k, controlsIn entries flight = [k] ∧ callsFor st.defining k

/-- One lane's part of the frame law. -/
def LaneFrames (o : Option Standing) (entries : List FrameKind) (flight : Option (FrameKind × Nat)) : Prop :=
  match o with
  | none => entries = [] ∧ flight = none
  | some st => FramesOk st entries flight

theorem not_defining_iff {m : Mode} : ¬ isDefining m = true ↔ ∀ x, m ≠ .defining x := by
  unfold isDefining
  cases m <;> simp

theorem flightIn_eq_some_iff {link : Link} {i : LaneId} {y : FrameKind × Nat} :
    flightIn link i = some y ↔ ∃ x, inFlight link = some x ∧ x.lane = i ∧ x.stale = false ∧ y = (x.kind, x.address) := by
  unfold flightIn
  cases inFlight link with
  | none => simp
  | some x =>
    constructor
    · intro h
      dsimp only at h
      split at h
      · next mine => cases h; exact ⟨x, rfl, mine.1, mine.2, rfl⟩
      · cases h
    · rintro ⟨x', e, mine, fresh, rfl⟩
      cases e
      exact if_pos ⟨mine, fresh⟩

theorem mem_entriesIn {frames : List Entry} {i : LaneId} {k : FrameKind} : k ∈ entriesIn frames i ↔ { lane := i, kind := k } ∈ frames := by
  unfold entriesIn
  simp only [List.mem_map, List.mem_filter, beq_iff_eq]
  constructor
  · rintro ⟨e, ⟨mem, rfl⟩, rfl⟩
    exact mem
  · exact fun mem => ⟨_, ⟨mem, rfl⟩, rfl⟩

theorem entriesIn_append (frames more : List Entry) (i : LaneId) :
    entriesIn (frames ++ more) i = entriesIn frames i ++ entriesIn more i := by
  simp [entriesIn]

theorem entriesIn_singleton (i j : LaneId) (k : FrameKind) : entriesIn [{ lane := j, kind := k }] i = if i = j then [k] else [] := by
  unfold entriesIn
  by_cases same : i = j
  · simp [same]
  · have other : (j == i) = false := beq_false_of_ne (Ne.symm same)
    simp [same, other]

theorem entriesIn_dropLane (frames : List Entry) (i j : LaneId) :
    entriesIn (frames.filter fun e => e.lane != j) i = if i = j then [] else entriesIn frames i := by
  unfold entriesIn
  rw [List.filter_filter]
  by_cases same : i = j
  · subst same
    rw [if_pos rfl, List.map_eq_nil_iff, List.filter_eq_nil_iff]
    intro e _
    simp
  · rw [if_neg same]
    congr 1
    refine List.filter_congr fun e _ => ?_
    by_cases lane : e.lane = i
    · simp [lane, same]
    · simp [lane]

theorem entry_bne (lane i : LaneId) (kind k : FrameKind) :
    (({ lane := lane, kind := kind } : Entry) != { lane := i, kind := k }) = (lane != i || kind != k) := by
  rw [Bool.eq_iff_iff]
  simp only [bne_iff_ne, Bool.or_eq_true, ne_eq, Entry.mk.injEq]
  tauto

theorem entriesIn_dropEntry (frames : List Entry) (i j : LaneId) (k : FrameKind) :
    entriesIn (frames.filter (· != { lane := j, kind := k })) i
      = if i = j then (entriesIn frames i).filter (· != k) else entriesIn frames i := by
  unfold entriesIn
  rw [List.filter_filter]
  by_cases same : i = j
  · subst same
    rw [if_pos rfl, List.filter_map, List.filter_filter]
    congr 1
    refine List.filter_congr fun e _ => ?_
    obtain ⟨lane, kind⟩ := e
    rw [entry_bne]
    cases mine : lane == i <;> simp_all
  · rw [if_neg same]
    congr 1
    refine List.filter_congr fun e _ => ?_
    obtain ⟨lane, kind⟩ := e
    by_cases mine : lane = i
    · simp [mine, same, entry_bne]
    · simp [mine]

theorem count_entriesIn (frames : List Entry) (i : LaneId) (k : FrameKind) :
    frames.count { lane := i, kind := k } = (entriesIn frames i).count k := by
  induction frames with
  | nil => rfl
  | cons e frames ih =>
    obtain ⟨lane, kind⟩ := e
    rw [List.count_cons, ih, show entriesIn (_ :: frames) i = _ from entriesIn_append [_] frames i, entriesIn_singleton, List.count_append]
    by_cases mine : i = lane
    · subst mine
      by_cases kinds : kind = k
      · simp [kinds, Nat.add_comm]
      · simp [kinds]
    · have other : ¬ lane = i := Ne.symm mine
      simp [mine, other]

theorem controls_eq (s : State) (i : LaneId) : controls s i = controlsIn (entriesIn s.frames i) (flightIn s.link i) := by
  unfold controls controlsIn entriesIn flightIn
  congr 1
  · rw [List.filter_map, List.filter_filter]
    congr 1
    refine List.filter_congr fun e _ => Bool.and_comm _ _
  · cases inFlight s.link with
    | none => rfl
    | some x =>
      by_cases mine : x.lane = i <;> cases stale : x.stale <;> simp [mine, stale]

theorem pending_iff (l : Lane) : l.mode.isPending = true ↔ (standingOf l).marker ≠ none := by
  unfold standingOf markerOf Mode.isPending
  cases l.mode with
  | tripped c n r clear => cases clear <;> simp
  | _ => simp

theorem awaits_iff {l : Lane} (pending : (standingOf l).marker ≠ none) (k : FrameKind) :
    awaits l.mode k = true ↔ callsFor (standingOf l).defining k := by
  unfold standingOf markerOf at *
  unfold isDefining
  cases hm : l.mode with
  | tripped c n r clear =>
    rw [hm] at pending
    cases clear with
    | none => exact absurd rfl pending
    | some m => cases k <;> simp [awaits, callsFor]
  | defining m => cases k <;> simp [awaits, callsFor]
  | _ => rw [hm] at pending; exact absurd rfl pending

theorem frameLaw_iff {s : State} :
    FrameLaw s ↔ ∀ i, LaneFrames (standingAt s i) (entriesIn s.frames i) (flightIn s.link i) := by
  constructor
  · intro law i
    unfold standingAt
    cases lane : s.lane i with
    | none =>
      have empty : entriesIn s.frames i = [] := by
        refine List.eq_nil_iff_forall_not_mem.2 fun k mem => ?_
        obtain ⟨l, present, -⟩ := law.present _ (mem_entriesIn.1 mem)
        rw [lane] at present
        cases present
      refine ⟨empty, ?_⟩
      cases flight : flightIn s.link i with
      | none => rfl
      | some x =>
        obtain ⟨y, inFlight, rfl, stale, rfl⟩ := flightIn_eq_some_iff.1 flight
        obtain ⟨l, present, -⟩ := law.flight y inFlight stale
        rw [lane] at present
        cases present
    | some l =>
      refine ⟨?_, fun defining => ⟨fun mem => ?_, fun a flight => ?_⟩, fun k a flight => ?_, fun free => ?_, fun pending => ?_⟩
      · rw [← count_entriesIn]
        exact law.refs i
      · obtain ⟨l', present, service⟩ := law.present _ (mem_entriesIn.1 mem)
        rw [lane] at present
        cases present
        exact not_defining_iff.2 (service rfl) defining
      · obtain ⟨y, inFlight, rfl, stale, e⟩ := flightIn_eq_some_iff.1 flight
        obtain ⟨l', present, -, service⟩ := law.flight y inFlight stale
        rw [lane] at present
        cases present
        exact not_defining_iff.2 (service (congrArg Prod.fst e).symm) defining
      · obtain ⟨y, inFlight, rfl, stale, e⟩ := flightIn_eq_some_iff.1 flight
        obtain ⟨l', present, address, -⟩ := law.flight y inFlight stale
        rw [lane] at present
        cases present
        exact (congrArg Prod.snd e).trans address.symm
      · rw [← controls_eq]
        refine law.noControl i fun l' present => ?_
        rw [lane] at present
        cases present
        exact Bool.eq_false_iff.2 fun pending => (pending_iff l).1 pending free
      · obtain ⟨k, controls, calls⟩ := law.control i l lane ((pending_iff l).2 pending)
        exact ⟨k, controls_eq s i ▸ controls, (awaits_iff pending k).1 calls⟩
  · intro law
    have occupied : ∀ i, (∃ k, k ∈ entriesIn s.frames i) ∨ flightIn s.link i ≠ none →
        ∃ l, s.lane i = some l ∧ FramesOk (standingOf l) (entriesIn s.frames i) (flightIn s.link i) := by
      intro i some
      have mine := law i
      unfold standingAt at mine
      cases lane : s.lane i with
      | some l =>
        rw [lane] at mine
        exact ⟨l, rfl, mine⟩
      | none =>
        rw [lane] at mine
        obtain ⟨empty, landed⟩ := mine
        obtain ⟨k, mem⟩ | flies := some
        · rw [empty] at mem
          cases mem
        · exact absurd landed flies
    refine ⟨fun e mem => ?_, fun i => ?_, fun i l lane pending => ?_, fun i free => ?_, fun x inFlight fresh => ?_⟩
    · have entry := mem_entriesIn.2 mem
      obtain ⟨l, lane, ok⟩ := occupied e.lane (.inl ⟨_, entry⟩)
      exact ⟨l, lane, fun ref => not_defining_iff.1 fun defining => (ok.quiet defining).1 (ref ▸ entry)⟩
    · rw [count_entriesIn]
      have mine := law i
      unfold standingAt at mine
      cases lane : s.lane i with
      | none =>
        rw [lane] at mine
        rw [mine.1]
        exact Nat.zero_le 1
      | some l =>
        rw [lane] at mine
        exact mine.once
    · have mine := law i
      unfold standingAt at mine
      rw [lane] at mine
      have marked := (pending_iff l).1 pending
      obtain ⟨k, controls, calls⟩ := FramesOk.pending mine marked
      exact ⟨k, controls_eq s i ▸ controls, (awaits_iff marked k).2 calls⟩
    · rw [controls_eq]
      have mine := law i
      unfold standingAt at mine
      cases lane : s.lane i with
      | none =>
        rw [lane] at mine
        rw [mine.1, mine.2]
        rfl
      | some l =>
        rw [lane] at mine
        refine FramesOk.free mine (Classical.not_not.1 fun marked => ?_)
        have pending := (pending_iff l).2 marked
        rw [free l lane] at pending
        cases pending
    · have flight : flightIn s.link x.lane = some (x.kind, x.address) := flightIn_eq_some_iff.2 ⟨x, inFlight, rfl, fresh, rfl⟩
      obtain ⟨l, lane, ok⟩ := occupied x.lane (.inr (by rw [flight]; exact nofun))
      exact ⟨l, lane, (ok.address _ _ flight).symm, fun ref => not_defining_iff.1 fun defining =>
        (ok.quiet defining).2 x.address (ref ▸ flight)⟩

end Sys2Proof.Pending
end

section
/-! PROOF. Changes that leave every pending operation, every waiting request and the transaction in flight as they are, and keep the laws of
both ports; the requests that are such changes. -/

namespace Sys2Proof.Pending

open Sys2Proof.Machine Sys2Proof.Safety Sys2Proof.Requests Sys2Proof.PortLaws

/-! ## Calm changes -/

/-- A lane's entries stand, but for one REF entry that a lane in service may take (R165). -/
def CalmEntries (o : Option Standing) (before after : List FrameKind) : Prop :=
  after = before ∨ after = before ++ [.ref] ∧ .ref ∉ before ∧ ∃ st, o = some st ∧ st.defining = false

/-- The receivers and the transmitters of both ports stand. -/
structure SameReceivers (s t : State) : Prop where
  framer : t.framer = s.framer
  gapTimer : t.gapTimer = none ↔ s.gapTimer = none
  urxLow : t.urxLow = s.urxLow
  uTx : t.uTx = s.uTx
  spi : t.spi = s.spi

/-- The laws of both ports are kept, and their lines stand. -/
structure PortsKept (s t : State) : Prop where
  ports : ∀ p, PortKeeps (s.port p) (t.port p)
  receivers : SameReceivers s t

/-- Every lane, its entries and the transaction in flight stand as the frame law sees them. -/
structure FramesKept (s t : State) : Prop where
  standing : ∀ i, standingAt t i = standingAt s i
  flight : ∀ i, flightIn t.link i = flightIn s.link i
  entries : ∀ i, CalmEntries (standingAt s i) (entriesIn s.frames i) (entriesIn t.frames i)

/-- A change that the frame law and the waiting requests do not see. -/
structure Calm (s t : State) : Prop extends PortsKept s t, FramesKept s t where
  waiting : ∀ p, SameWaiting (s.port p) (t.port p)

theorem CalmEntries.trans {o : Option Standing} {a b c : List FrameKind} (h : CalmEntries o a b) (g : CalmEntries o b c) :
    CalmEntries o a c := by
  obtain rfl | ⟨rfl, new, service⟩ := h
  · exact g
  · obtain rfl | ⟨-, again, -⟩ := g
    · exact .inr ⟨rfl, new, service⟩
    · exact absurd (List.mem_append_right a List.mem_cons_self) again

/-- One REF entry more keeps a lane's part of the frame law. -/
theorem laneFrames_of_calm {o : Option Standing} {es es' : List FrameKind} {flight : Option (FrameKind × Nat)}
    (calm : CalmEntries o es es') (h : LaneFrames o es flight) : LaneFrames o es' flight := by
  obtain rfl | ⟨rfl, new, st, rfl, service⟩ := calm
  · exact h
  · have controls : controlsIn (es ++ [.ref]) flight = controlsIn es flight := by simp [controlsIn, isControl]
    have ok : FramesOk st es flight := h
    refine ⟨?_, fun defining => ?_, ok.address, fun free => controls.trans (ok.free free), fun pending => controls ▸ ok.pending pending⟩
    · rw [List.count_append, List.count_eq_zero.2 new]
      exact Nat.le_refl 1
    · rw [service] at defining
      cases defining

section
variable {s t u : State}

theorem SameReceivers.refl (s : State) : SameReceivers s s := ⟨rfl, Iff.rfl, rfl, rfl, rfl⟩

theorem SameReceivers.trans (h : SameReceivers s u) (g : SameReceivers u t) : SameReceivers s t :=
  ⟨g.framer.trans h.framer, g.gapTimer.trans h.gapTimer, g.urxLow.trans h.urxLow, g.uTx.trans h.uTx, g.spi.trans h.spi⟩

theorem PortsKept.refl (s : State) : PortsKept s s := ⟨fun _ => .refl _, .refl s⟩

theorem PortsKept.trans (h : PortsKept s u) (g : PortsKept u t) : PortsKept s t :=
  ⟨fun p => (h.ports p).trans (g.ports p), h.receivers.trans g.receivers⟩

theorem PortsKept.modPort (h : PortsKept s u) (p : PortId) (f : Port → Port) (keeps : PortKeeps (u.port p) (f (u.port p))) :
    PortsKept s (u.modPort p f) := by
  refine h.trans ⟨fun q => ?_, ⟨by simp, by simp, by simp, by simp, by simp⟩⟩
  rw [State.port_modPort]
  split
  · next e => exact e ▸ keeps
  · exact .refl _

/-- A step that reaches neither a port nor a line. -/
theorem PortsKept.rest (h : PortsKept s u) (ports : ∀ p, t.port p = u.port p) (receivers : SameReceivers u t) : PortsKept s t :=
  h.trans ⟨fun p => by rw [ports p]; exact .refl _, receivers⟩

theorem PortsKept.putLane (h : PortsKept s u) (i : LaneId) (o : Option Lane) : PortsKept s (u.putLane i o) :=
  h.rest (u.port_putLane i o) ⟨rfl, Iff.rfl, rfl, rfl, rfl⟩

theorem PortsKept.pushControl (h : PortsKept s u) (i : LaneId) (k : FrameKind) : PortsKept s (u.pushControl i k) :=
  h.rest (u.port_pushControl i k) ⟨rfl, Iff.rfl, rfl, rfl, rfl⟩

theorem PortsKept.answerLong (h : PortsKept s u) (p : PortId) (i : LaneId) (k : SlotId) (r : Result) (payload : List Byte) :
    PortsKept s (u.modPort p (·.answerLong i k r payload)) := h.modPort p _ (portKeeps_answerLong ..)

theorem PortsKept.enterVacant (h : PortsKept s u) (i : LaneId) : PortsKept s (u.enterVacant i) := by
  unfold State.enterVacant
  dsimp only
  exact ((PortsKept.rest (t := { u.putLane i none with frames := u.frames.filter (fun e => e.lane != i), link := u.link.markStale i })
    (h.putLane i none) (fun p => by cases p <;> rfl) ⟨rfl, Iff.rfl, rfl, rfl, rfl⟩).modPort .s (·.dropLane i) (portKeeps_dropLane ..)).modPort
    .u (·.dropLane i) (portKeeps_dropLane ..)

theorem FramesKept.refl (s : State) : FramesKept s s := ⟨fun _ => rfl, fun _ => rfl, fun _ => .inl rfl⟩

theorem FramesKept.trans (h : FramesKept s u) (g : FramesKept u t) : FramesKept s t where
  standing i := (g.standing i).trans (h.standing i)
  flight i := (g.flight i).trans (h.flight i)
  entries i := (h.entries i).trans (h.standing i ▸ g.entries i)

/-- A step that reaches neither a lane nor the link. -/
theorem FramesKept.of_same (lanes : ∀ i, t.lane i = s.lane i) (link : SameLink s t) : FramesKept s t :=
  ⟨fun i => by simp only [standingAt, lanes], fun i => by rw [link.link], fun i => .inl (by rw [link.frames])⟩

theorem FramesKept.put {i : LaneId} {l l' : Lane} (lane : s.lane i = some l) (same : standingOf l' = standingOf l) :
    FramesKept s (s.putLane i (some l')) := by
  refine ⟨fun j => ?_, fun _ => rfl, fun _ => .inl rfl⟩
  unfold standingAt
  rw [State.lane_putLane]
  split
  · next e => rw [e, lane, Option.map_some, Option.map_some, same]
  · rfl

theorem Calm.refl (s : State) : Calm s s := ⟨.refl s, .refl s, fun _ => .refl _⟩

theorem Calm.trans (h : Calm s u) (g : Calm u t) : Calm s t :=
  ⟨h.toPortsKept.trans g.toPortsKept, h.toFramesKept.trans g.toFramesKept, fun p => (h.waiting p).trans (g.waiting p)⟩

/-- A step that reaches neither a lane, a port, the link nor a line. -/
theorem Calm.rest (h : Calm s u) (lanes : ∀ i, t.lane i = u.lane i) (ports : ∀ p, t.port p = u.port p) (link : SameLink u t)
    (receivers : SameReceivers u t) : Calm s t :=
  h.trans ⟨.rest (.refl u) ports receivers, .of_same lanes link, fun p => by rw [ports p]; exact .refl _⟩

theorem Calm.put (h : Calm s u) {i : LaneId} {l l' : Lane} (lane : u.lane i = some l) (same : standingOf l' = standingOf l) :
    Calm s (u.putLane i (some l')) :=
  h.trans ⟨PortsKept.putLane (.refl u) i _, .put lane same, fun p => by rw [State.port_putLane]; exact .refl _⟩

theorem Calm.modPort (h : Calm s u) (p : PortId) (f : Port → Port) (keeps : PortKeeps (u.port p) (f (u.port p)))
    (waits : SameWaiting (u.port p) (f (u.port p))) : Calm s (u.modPort p f) := by
  refine h.trans ⟨PortsKept.modPort (.refl u) p f keeps, .of_same (fun i => u.lane_modPort p f i) ⟨by simp, by simp⟩, fun q => ?_⟩
  rw [State.port_modPort]
  split
  · next e => exact e ▸ waits
  · exact .refl _

theorem Calm.report (h : Calm s u) (i : LaneId) (r : LaneReport) : Calm s (u.report i r) := by
  have takes : ∀ {v : State} (p : PortId), Calm s v → Calm s (v.modPort p (·.takeLane i r)) := fun p g =>
    g.modPort p _ (portKeeps_takeLane ..) (sameWaiting_takeLane ..)
  unfold State.report
  split
  · exact takes _ h
  · exact takes _ (takes _ h)

theorem Calm.pushRef (h : Calm s u) {i : LaneId} {l : Lane} (lane : u.lane i = some l) (service : ∀ m, l.mode ≠ .defining m) :
    Calm s (u.pushRef i) := by
  unfold State.pushRef
  split
  · exact h
  · next new =>
    refine h.trans ⟨.rest (.refl u) (fun _ => by rfl) ⟨rfl, Iff.rfl, rfl, rfl, rfl⟩, ⟨fun _ => rfl, fun _ => rfl, fun j => ?_⟩,
      fun _ => .refl _⟩
    change CalmEntries _ _ (entriesIn (u.frames ++ [_]) j)
    rw [entriesIn_append, entriesIn_singleton]
    split
    · next e =>
      subst e
      refine .inr ⟨rfl, fun mem => new ?_, standingOf l, by rw [standingAt, lane]; rfl, ?_⟩
      · exact List.contains_iff_mem.2 (mem_entriesIn.1 mem)
      · exact Bool.eq_false_iff.2 (not_defining_iff.2 service)
    · exact .inl (List.append_nil _)

theorem Calm.keyPassed {c : Ctx} (h : Calm s u) (passed : KeyPassed c u t) : Calm s t := by
  cases passed with
  | unowned => exact h
  | owner free => exact h.modPort _ _ (portKeeps_clearStrikes free) (.of_same rfl rfl)

theorem calm_struck {c : Ctx} (free : (s.port c.port).barred = false) : Calm s (s.modPort c.port Port.strike) :=
  Calm.modPort (.refl s) _ _ (portKeeps_strike free) (.of_same rfl rfl)

end

/-! ## Records with no pending operation -/

theorem standingOf_of_free {l : Lane} (free : l.mode.isPending = false) :
    standingOf l = { address := l.cfg.address, defining := false, marker := none } := by
  unfold standingOf
  cases hm : l.mode with
  | defining m => rw [hm] at free; cases free
  | tripped c n r clear =>
    rw [hm] at free
    cases clear with
    | none => rfl
    | some m => cases free
  | _ => rfl

/-- A record with no pending operation is replaced by another at the same address. -/
theorem Calm.put_free {s u : State} (h : Calm s u) {i : LaneId} {l l' : Lane} (lane : u.lane i = some l)
    (free : l.mode.isPending = false) (free' : l'.mode.isPending = false) (address : l'.cfg.address = l.cfg.address) :
    Calm s (u.putLane i (some l')) :=
  h.put lane (by rw [standingOf_of_free free, standingOf_of_free free', address])

/-! ## Requests that end in their event -/

/-- The request is answered, and its own steps are a calm change. -/
structure Ended (s : State) (out : Answer × State) : Prop where
  answered : out.1 ≠ .wait
  calm : Calm s out.2

section
variable {c : Ctx} {s : State}

theorem ended_refuse {u : State} (h : Calm s u) (r : Result) : Ended s (.refuse r, u) := ⟨nofun, h⟩

theorem ended_ok {u : State} (h : Calm s u) (payload : List Byte) : Ended s (.ok payload, u) := ⟨nofun, h⟩

theorem ended_put {u : State} (h : Calm s u) {i : LaneId} {l l' : Lane} (lane : u.lane i = some l) (free : l.mode.isPending = false)
    (free' : l'.mode.isPending = false) (address : l'.cfg.address = l.cfg.address) : Ended s (.ok [], u.putLane i (some l')) :=
  ended_ok (h.put_free lane free free' address) []

theorem ended_changing {shape claiming : Bool} {rest : LaneId → Lane → State → Answer × State}
    (goesOn : ∀ i l u, u.lane i = some l → l.mode.isPending = false → Calm s u → Ended s (rest i l u)) :
    Ended s (changing c shape claiming s rest) := by
  have outcome := changing_outcome c shape claiming s rest
  generalize changing c shape claiming s rest = out at outcome ⊢
  cases outcome with
  | refused r ne => exact ended_refuse (.refl s) r
  | struck free => exact ended_refuse (calm_struck free) .key
  | busy u passed => exact ended_refuse (.keyPassed (.refl s) passed) .laneBusy
  | goesOn i l u lane record free passed =>
    exact goesOn i l u ((Records.lane_of_keyPassed passed i).trans record) free (.keyPassed (.refl s) passed)

theorem ended_claim : Ended s (claimAction c s) := by
  refine ended_changing fun i l u lane free h => ?_
  split
  · exact ended_ok h []
  · split
    · exact ended_refuse h _
    · exact ended_put h lane free free rfl

theorem ended_release : Ended s (releaseAction c s) :=
  ended_changing fun _ _ _ lane free h => ended_put h lane free free rfl

theorem ended_pin : Ended s (pinAction c s) :=
  ended_changing fun _ _ _ lane free h => ended_put h lane free free rfl

theorem ended_setPoint : Ended s (setPointAction c s) := by
  refine ended_changing fun i l u lane free h => ?_
  split
  · exact ended_refuse h _
  · exact ended_put h lane free free rfl

theorem ended_setRatio : Ended s (setRatioAction c s) := by
  refine ended_changing fun i l u lane free h => ?_
  split
  · exact ended_refuse h _
  · split
    · exact ended_refuse h _
    · exact ended_put h lane free free rfl

theorem ended_start : Ended s (startAction c s) := by
  refine ended_changing fun i l u lane free h => ?_
  split
  · exact ended_refuse h _
  · split
    · exact ended_refuse h _
    · split
      · exact ended_refuse h _
      · split
        · exact ended_refuse h _
        · split
          · exact ended_refuse h _
          · exact ended_put h lane free rfl rfl

theorem ended_stop : Ended s (stopAction c s) := by
  refine ended_changing fun i l u lane free h => ?_
  split
  case h_1 mode => exact ended_put h lane free rfl rfl
  case h_2 | h_3 => exact ended_ok h []
  all_goals exact ended_refuse h _

theorem isPending_takeHold {l : Lane} (free : l.mode.isPending = false) : l.takeHold.mode.isPending = false := by
  unfold Lane.takeHold
  split
  case h_1 => rfl
  all_goals exact free

theorem takeHold_address (l : Lane) : l.takeHold.cfg.address = l.cfg.address := by
  unfold Lane.takeHold
  split <;> rfl

theorem ended_hold : Ended s (holdAction c s) := by
  refine ended_changing fun i l u lane free h => ?_
  split
  case h_1 mode => exact ended_put h lane free (isPending_takeHold free) (takeHold_address l)
  all_goals exact ended_refuse h _

theorem ended_resume : Ended s (resumeAction c s) := by
  refine ended_changing fun i l u lane free h => ?_
  split
  case h_1 mode => exact ended_put h lane free rfl rfl
  case h_2 => exact ended_ok h []
  all_goals exact ended_refuse h _

theorem ended_append : Ended s (appendAction c s) := by
  refine ended_changing fun i l u lane free h => ?_
  have joins : Ended s (match segmentOf c.req.payload with
      | none => ((Answer.refuse .badField, u) : Answer × State)
      | some g =>
        if Config.queueMax ≤ l.queue.length then (.refuse .queueFull, u)
        else if u.poolFree = 0 then (.refuse .poolFull, u)
        else (.ok [], u.putLane i (some { l with queue := l.queue ++ [g] }))) := by
    split
    · exact ended_refuse h _
    · split
      · exact ended_refuse h _
      · split
        · exact ended_refuse h _
        · exact ended_put h lane free free rfl
  split
  case h_1 | h_2 => exact joins
  all_goals exact ended_refuse h _

theorem ended_runProfile : Ended s (runProfileAction c s) := by
  refine ended_changing fun i l u lane free h => ?_
  split
  case h_1 mode =>
    split
    · exact ended_refuse h _
    · split
      · exact ended_put h lane free rfl rfl
      · exact ended_put h lane free rfl rfl
      · exact ended_ok h []
  all_goals exact ended_refuse h _

theorem ended_pauseProfile : Ended s (pauseProfileAction c s) := by
  refine ended_changing fun i l u lane free h => ?_
  split
  case h_1 mode => exact ended_put h lane free rfl rfl
  case h_2 => exact ended_ok h []
  all_goals exact ended_refuse h _

theorem isPending_flush {l : Lane} (free : l.mode.isPending = false) : l.flush.mode.isPending = false := by
  unfold Lane.flush
  split
  case h_1 | h_2 | h_3 => rfl
  all_goals exact free

theorem flush_address (l : Lane) : l.flush.cfg.address = l.cfg.address := by
  unfold Lane.flush
  split <;> rfl

theorem ended_flushProfile : Ended s (flushProfileAction c s) :=
  ended_changing fun _ _ _ lane free h => ended_put h lane free (isPending_flush free) (flush_address _)

theorem ended_setSource : Ended s (setSourceAction c s) := by
  refine ended_changing fun i l u lane free h => ?_
  split
  · exact ended_refuse h _
  · split
    · exact ended_refuse h _
    · split
      · exact ended_refuse h _
      · next src _ _ => exact ended_put h lane free free rfl

/-! ## Requests that name no lane, and the views -/

theorem ended_laneless {shape : Bool} {rest : Answer × State} (h : Ended s rest) : Ended s (laneless c shape s rest) := by
  obtain ⟨r, -, e⟩ | e := laneless_outcome c shape s rest
  · rw [e]
    exact ended_refuse (.refl s) r
  · rwa [e]

theorem ended_unknown : Ended s (unknownAction c s) := ended_refuse (.refl s) _

theorem ended_setLease : Ended s (setLeaseAction c s) :=
  ended_laneless (ended_ok (.modPort (.refl s) _ _ (portKeeps_setPeriod _ _) (.of_same rfl rfl)) [])

theorem ended_setAttentionMask : Ended s (setAttentionMaskAction c s) :=
  ended_laneless (ended_ok (.modPort (.refl s) _ _ (portKeeps_setMask _ _) (.of_same rfl rfl)) _)

theorem ended_readAttention : Ended s (readAttentionAction c s) := ended_laneless (ended_ok (.refl s) _)

theorem ended_ackAttention : Ended s (ackAttentionAction c s) := by
  refine ended_laneless ?_
  dsimp only
  split
  · exact ended_refuse (.refl s) _
  · exact ended_ok (.modPort (.refl s) _ _ (portKeeps_attn (keep_ackAll _)) (.of_same rfl rfl)) _

theorem ended_readDevice : Ended s (readDeviceAction c s) := ended_laneless (ended_ok (.refl s) _)

theorem ended_nop : Ended s (nopAction c s) := ended_laneless (ended_ok (.refl s) _)

theorem ended_findDrive : Ended s (findDriveAction c s) := by
  refine ended_laneless ?_
  dsimp only
  split
  · exact ended_refuse (.refl s) _
  · split
    · exact ended_refuse (.refl s) _
    · exact ended_ok (.refl s) _

theorem ended_listLanes : Ended s (listLanesAction c s) := ended_laneless (ended_ok (.refl s) _)

theorem ended_readLane : Ended s (readLaneAction c s) := by
  unfold readLaneAction
  split
  · exact ended_refuse (.refl s) _
  · split
    · exact ended_refuse (.refl s) _
    · exact ended_ok (.refl s) _

theorem ended_readProfile : Ended s (readProfileAction c s) := by
  unfold readProfileAction
  split
  · exact ended_refuse (.refl s) _
  · split
    · exact ended_refuse (.refl s) _
    · split
      · exact ended_refuse (.refl s) _
      · split
        · exact ended_refuse (.refl s) _
        · exact ended_ok (.refl s) _

end

end Sys2Proof.Pending
end

section
/-! PROOF. The events that are calm changes, and the requests served as such; what the other events leave of the ports. -/

namespace Sys2Proof.Pending

open Sys2Proof.Machine Sys2Proof.Safety Sys2Proof.Requests Sys2Proof.PortLaws

section
variable {s t u : State}

/-! ## A request that is served (R152) -/

theorem PortsKept.takeRequest {c : Ctx} (chosen : s.choice = some c) : PortsKept s (s.takeRequest c) := by
  have queued := State.choice_slot chosen
  refine (PortsKept.modPort (.refl s) c.port (·.setSlot c.slot (.executing c.req c.lapsed)) ?_).rest (fun _ => by rfl) ⟨rfl, Iff.rfl, rfl, rfl, rfl⟩
  exact portKeeps_setSlot (by rw [queued]; rfl) (by rw [queued]; exact nofun) rfl

theorem PortsKept.finish {c : Ctx} (h : PortsKept s u) (a : Answer) : PortsKept s (u.finish c a) := by
  cases a with
  | refuse r => exact h.modPort c.port (·.answer c.slot r []) (portKeeps_answer ..)
  | ok payload => exact h.modPort c.port (·.answer c.slot .ok payload) (portKeeps_answer ..)
  | wait => exact h

/-- An EXECUTING slot is answered, and the others stand. -/
theorem executing_answer {p : Port} {k : SlotId} {q : Request} {f : Bool} (executing : p.slots[k] = .executing q f) (r : Result)
    (payload : List Byte) (j : SlotId) (x : Request) (g : Bool) :
    (p.answer k r payload).slots[j] = .executing x g ↔ j ≠ k ∧ p.slots[j] = .executing x g := by
  rw [Port.answer_executing p k q f r payload executing]
  change (p.setSlot k _).slots[j] = _ ↔ _
  rw [Port.slots_setSlot]
  split
  · next e => simp [e]
  · next ne => simp [ne]

/-- The slot that the arbiter chose was QUEUED, and is answered in the same event. -/
theorem sameWaiting_served {p q : Port} {c : Ctx} (queued : p.slots[c.slot] = .queued c.req c.lapsed)
    (same : SameWaiting (p.setSlot c.slot (.executing c.req c.lapsed)) q) (r : Result) (payload : List Byte) :
    SameWaiting p (q.answer c.slot r payload) := by
  refine ⟨fun k x f => ?_, (Port.answer_discard ..).trans same.discard⟩
  rw [executing_answer ((same.executing c.slot c.req c.lapsed).2 (Port.slots_setSlot_self ..)), same.executing, Port.slots_setSlot]
  constructor
  · rintro ⟨ne, executing⟩
    rwa [if_neg ne] at executing
  · intro executing
    have ne : k ≠ c.slot := fun e => by
      rw [e, queued] at executing
      cases executing
    exact ⟨ne, by rwa [if_neg ne]⟩

/-- A request that ends in its event leaves what waits as it stood before it was taken. -/
theorem sameWaiting_finish {c : Ctx} {a : Answer} (chosen : s.choice = some c) (answered : a ≠ .wait)
    (same : ∀ p, SameWaiting ((s.takeRequest c).port p) (u.port p)) (p : PortId) : SameWaiting (s.port p) ((u.finish c a).port p) := by
  have answers : ∀ r payload, SameWaiting (s.port p) ((u.modPort c.port (·.answer c.slot r payload)).port p) := by
    intro r payload
    have same := same p
    rw [State.port_takeRequest, State.port_modPort] at same
    rw [State.port_modPort]
    split at same
    · next e =>
      subst e
      rw [if_pos rfl]
      exact sameWaiting_served (State.choice_slot chosen) same r payload
    · next ne => rwa [if_neg ne]
  cases a with
  | refuse r => exact answers r []
  | ok payload => exact answers .ok payload
  | wait => exact absurd rfl answered

/-- A request that ends in its event is a calm change. -/
theorem calm_serves {row : Instr} {c : Ctx} {act : Request.Action} (serves : Serves s c row)
    (ended : Ended (s.takeRequest c) (act c (s.takeRequest c))) :
    Calm s ((act c (s.takeRequest c)).2.finish c (act c (s.takeRequest c)).1) := by
  obtain ⟨answered, calm⟩ := ended
  generalize act c (s.takeRequest c) = out at answered calm ⊢
  obtain ⟨a, u⟩ := out
  have taken : FramesKept s (s.takeRequest c) := .of_same (fun i => s.lane_takeRequest c i) ⟨by simp, by simp⟩
  have finished : FramesKept u (u.finish c a) := by
    cases a with
    | wait => exact .refl u
    | _ => exact .of_same (fun i => u.lane_modPort _ _ i) ⟨by simp [State.finish], by simp [State.finish]⟩
  exact ⟨((PortsKept.takeRequest serves.chosen).trans calm.toPortsKept).finish a, (taken.trans calm.toFramesKept).trans finished,
    sameWaiting_finish serves.chosen answered calm.waiting⟩

/-- The row of a request that always ends in its event. -/
theorem calm_runEngine {row : Instr} {act : Request.Action} (ended : ∀ c u, Ended u (act c u)) (h : runEngine row act s = .next t) :
    Calm s t := by
  obtain rfl | ⟨c, serves, rfl⟩ := runEngine_cases h
  · exact .refl _
  · exact calm_serves serves (ended c _)

/-! ## Trips and resolutions -/

theorem standingOf_retrip (l : Lane) (c : TripCause) (n : Nat) : standingOf { l with mode := l.mode.retrip c n } = standingOf l := by
  unfold standingOf
  cases hm : l.mode <;> rfl

theorem standingOf_resolve (l : Lane) : standingOf { l with mode := l.mode.resolve } = standingOf l := by
  unfold standingOf
  cases hm : l.mode <;> rfl

theorem free_of_moving {l : Lane} (moving : l.mode.isMoving = true) : l.mode.isPending = false := by
  cases hm : l.mode with
  | defining m => rw [hm] at moving; cases moving
  | tripped c n r m => rw [hm] at moving; cases moving
  | _ => rfl

theorem calm_enterTripped {root : LaneId} {c : TripCause} {code : Nat} (moving : ∀ l, s.lane root = some l → l.mode.isMoving = true) :
    Calm s (s.enterTripped root c code) := by
  refine Records.foldl_allLanes_rest (Calm s) (fun u j i ne => by rw [lane_tripOne, if_neg ne]) (fun u j h same => ?_) (.refl s)
  unfold State.tripOne
  split
  · exact h
  · next l lane =>
    rw [lane] at same
    split
    · next trips =>
      have moves : l.mode.isMoving = true := by
        obtain rfl | moves := Records.moving_of_trips trips lane
        · exact moving l lane
        · exact moves
      refine ((h.put_free same (l' := l.enterTripped _ _) (free_of_moving moves) rfl rfl).report _ _).pushRef (l := l.enterTripped _ _)
        (by rw [State.lane_report, State.lane_putLane_self]) nofun
    · split
      · exact (h.put same (standingOf_retrip ..)).report _ _
      · exact h

/-- A lane with no pending CLEAR leaves TRIPPED. -/
theorem calm_leaveOne {j : LaneId} {l : Lane} (h : Calm s u) (lane : u.lane j = some l) (free : l.mode.isPending = false)
    (unmarked : l.mode.clearMarker = none) (a : Bool) : Calm s (u.leaveOne j l a) := by
  have left : Calm s (u.putLane j (some (l.leaveTripped a))) := h.put_free lane free (by cases a <;> rfl) rfl
  unfold State.leaveOne
  rw [unmarked]
  cases a with
  | true => exact left.report _ _
  | false => exact left

/-- Every lane's part in a resolution event but the root's, whose pending CLEAR is overtaken. -/
theorem calm_resolveOne {b : State} {root j : LaneId} {a : Bool} (law : LaneLaw s) (other : j ≠ root ∨ ∀ l, s.lane j = some l →
    l.mode.isPending = false ∧ l.mode.clearMarker = none) (h : Calm b u) (same : u.lane j = s.lane j) :
    Calm b (s.resolveOne root a u j) := by
  unfold State.resolveOne
  split
  · exact h
  · next l lane =>
    rw [lane] at same
    split
    · next t leaves =>
      obtain ⟨free, unmarked⟩ : l.mode.isPending = false ∧ l.mode.clearMarker = none := by
        obtain other | free := other
        · obtain root | ⟨n, m, mode⟩ := Records.tripped_of_leaves leaves lane
          · exact absurd root other
          · have ok := (law j l lane).mode
            unfold ModeOk at ok
            rw [mode] at ok
            obtain ⟨-, -, -, -, -, -, -, unmarked⟩ := ok
            rw [mode, unmarked rfl]
            exact ⟨rfl, rfl⟩
        · exact free l lane
      exact calm_leaveOne h same free unmarked t
    · split
      · exact h
      · split
        · exact h.put same (standingOf_resolve l)
        · exact h

theorem calm_leaveTripped {root : LaneId} (law : LaneLaw s)
    (free : ∀ l, s.lane root = some l → l.mode.isPending = false ∧ l.mode.clearMarker = none) (a : Bool) :
    Calm s (s.leaveTripped root a) := by
  refine Records.foldl_allLanes_rest (Calm s) (fun u j i ne => by rw [lane_resolveOne, if_neg ne]) (fun u j h same => ?_) (.refl s)
  by_cases e : j = root
  · exact calm_resolveOne law (.inr (e ▸ free)) h same
  · exact calm_resolveOne law (.inl e) h same

theorem kept_report (h : PortsKept s u) (i : LaneId) (r : LaneReport) : PortsKept s (u.report i r) :=
  h.trans (Calm.report (.refl u) i r).toPortsKept

theorem kept_preemptClear (h : PortsKept s u) (j : LaneId) (m : Option Marker) : PortsKept s (u.preemptClear j m) := by
  unfold State.preemptClear
  cases m with
  | none => exact h
  | some m => exact (h.answerLong m.port j m.slot .ok []).rest (fun _ => by rfl) ⟨rfl, Iff.rfl, rfl, rfl, rfl⟩

/-- A resolution keeps the ports, whatever it answers. -/
theorem kept_leaveTripped (root : LaneId) (a : Bool) : PortsKept s (s.leaveTripped root a) := by
  refine foldl_keeps (PortsKept s) (fun u j h => ?_) allLanes s (.refl s)
  unfold State.resolveOne
  split
  · exact h
  · split
    · next t _ =>
      unfold State.leaveOne
      cases t with
      | true => exact kept_preemptClear (kept_report (h.putLane j _) _ _) _ _
      | false => exact kept_preemptClear (h.putLane j _) _ _
    · split
      · exact h
      · split
        · exact h.putLane _ _
        · exact h

/-! ## HALT, updates, lease expiry -/

theorem calm_haltAssertion (h : execHaltAssertion s = .next t) : Calm s t := by
  unfold execHaltAssertion at h
  obtain e | ⟨-, e⟩ := whenRunning_cases h
  · exact e ▸ .refl _
  · rw [e]
    refine foldl_keeps (Calm s) (fun u j h => ?_) allLanes _
      (.rest (.refl s) (fun _ => rfl) (fun p => by cases p <;> rfl) ⟨rfl, rfl⟩ ⟨rfl, Iff.rfl, rfl, rfl, rfl⟩)
    unfold State.haltOne
    split
    · exact h
    · next l lane =>
      split
      case h_1 held run mode => exact h.put_free lane (by rw [mode]; rfl) rfl rfl
      all_goals exact h

theorem calm_reportAll (h : Calm s u) (i : LaneId) (rs : List LaneReport) : Calm s (u.reportAll i rs) := by
  unfold State.reportAll
  induction rs generalizing u with
  | nil => exact h
  | cons r rs ih => exact ih (h.report i r)

/-- An update leaves what the frame law sees of a record. -/
theorem standingOf_update (l : Lane) (base : Int) (timer : Option Nat) :
    standingOf { (l.update base).1 with timer := timer } = standingOf l := by
  unfold standingOf Lane.update
  cases hm : l.mode with
  | active held run => rfl
  | stopping c =>
    simp only [Lane.runDown]
    split
    · rfl
    · simp only [hm]
  | _ => simp only [hm]

theorem service_of_standing {l l' : Lane} (same : standingOf l' = standingOf l) (service : ∀ m, l.mode ≠ .defining m) :
    ∀ m, l'.mode ≠ .defining m := by
  rw [← not_defining_iff] at service ⊢
  have defining : isDefining l'.mode = isDefining l.mode := congrArg Standing.defining same
  rwa [defining]

theorem calm_laneUpdate {i : LaneId} (law : LaneLaw s) (h : execLaneUpdate i s = .next t) : Calm s t := by
  unfold execLaneUpdate at h
  obtain rfl | ⟨-, rfl⟩ := whenRunning_cases h
  · exact .refl _
  · split
    · exact .refl s
    · next l lane =>
      split
      · exact .refl s
      · next n timer =>
        have service : ∀ m, l.mode ≠ .defining m := by
          intro m mode
          have ok := (law i l lane).mode
          unfold ModeOk at ok
          rw [mode] at ok
          obtain ⟨-, -, -, -, -, -, stopped, -⟩ := ok
          rw [stopped] at timer
          cases timer
        have same := standingOf_update l (s.baseDemand l) (some l.cfg.periodTicks)
        refine (calm_reportAll (Calm.put (.refl s) lane same) i _).pushRef ?_ (service_of_standing same service)
        rw [FollowChains.lane_reportAll, State.lane_putLane_self]

theorem calm_leaseExpiry {p : PortId} (h : execLeaseExpiry p s = .next t) : Calm s t := by
  unfold execLeaseExpiry at h
  obtain rfl | ⟨-, rfl⟩ := whenRunning_cases h
  · exact .refl _
  · split
    · exact .refl s
    · refine foldl_keeps (Calm s) (fun u j h => ?_) allLanes _ (.modPort (.refl s) _ _ (portKeeps_lapse _) (sameWaiting_lapse _))
      unfold State.fallbackOne
      split
      · exact h
      · next l lane =>
        have held : standingOf l.takeHold = standingOf l := by
          unfold Lane.takeHold
          split
          · next mode => simp only [standingOf, mode]; rfl
          all_goals rfl
        split
        · split
          · exact h.put lane held
          · split
            case h_1 mode => exact h.put_free lane (by rw [mode]; rfl) rfl rfl
            all_goals exact h
          · exact (h.put (l' := { l with claim := none }) lane rfl).modPort _ _ (portKeeps_takeLane ..) (sameWaiting_takeLane ..)
        · exact h

/-! ## The tick -/

theorem calm_tick : Calm s s.tick := by
  cases held : s.held with
  | true => rw [State.tick, held, if_pos rfl]; exact .refl s
  | false =>
    have ports : ∀ p, s.tick.port p = (s.port p).tick := by
      intro p
      unfold State.tick
      rw [held]
      cases p <;> rfl
    have same : ∀ i, standingAt s.tick i = standingAt s i := by
      intro i
      unfold standingAt
      rw [Records.lane_tick s held]
      cases s.lane i <;> rfl
    refine ⟨⟨fun p => ports p ▸ portKeeps_tick _, ?_⟩, ⟨same, fun i => ?_, fun i => .inl ?_⟩, fun p => ports p ▸ .of_same rfl rfl⟩
    · unfold State.tick
      rw [held]
      refine ⟨rfl, ?_, rfl, rfl, rfl⟩
      change tickTimer s.gapTimer = none ↔ _
      cases s.gapTimer <;> simp [tickTimer]
    · simp [State.tick, held, State.sampleHalt]
    · simp [State.tick, held, State.sampleHalt]

/-! ## The drive link -/

theorem calm_link {link : Link} (same : inFlight link = inFlight s.link) : Calm s { s with link := link } :=
  ⟨.rest (.refl s) (fun p => by cases p <;> rfl) ⟨rfl, Iff.rfl, rfl, rfl, rfl⟩,
    ⟨fun _ => rfl, fun i => by unfold flightIn; rw [same], fun _ => .inl rfl⟩, fun p => by cases p <;> exact .refl _⟩

theorem calm_linkFrameSent (h : execLinkFrameSent s = .next t) : Calm s t := by
  unfold execLinkFrameSent at h
  obtain rfl | ⟨-, rfl⟩ := whenRunning_cases h
  · exact .refl _
  · split
    · next link => exact calm_link (by rw [link]; rfl)
    all_goals exact .refl s

theorem calm_replyBegun (h : execReplyBegun s = .next t) : Calm s t := by
  unfold execReplyBegun at h
  obtain rfl | ⟨-, rfl⟩ := whenRunning_cases h
  · exact .refl _
  · split
    · next link => exact calm_link (by rw [link]; rfl)
    all_goals exact .refl s

theorem calm_tripReply {i : LaneId} {code : Nat} (h : Calm s u) : Calm s (u.tripReply i code) := by
  unfold State.tripReply
  split
  · exact h
  · next l lane =>
    have moving : l.mode.isMoving = true → Calm s (u.enterTripped i .drive code) := fun moves =>
      h.trans (calm_enterTripped fun l' e => by rw [lane] at e; cases e; exact moves)
    split
    case h_1 mode => exact moving (by rw [mode]; rfl)
    case h_2 mode => exact moving (by rw [mode]; rfl)
    case h_4 mode => exact (h.put lane (standingOf_retrip ..)).report _ _
    all_goals exact h

theorem calm_linkLoss {i : LaneId} (h : Calm s u) : Calm s (u.linkLoss i) := by
  unfold State.linkLoss
  split
  · exact h
  · next l lane =>
    have lost := (h.put (l' := { l with misses := 3, view := none }) lane rfl).report i .linkLost
    have lane' : ((u.putLane i (some { l with misses := 3, view := none })).report i .linkLost).lane i
        = some { l with misses := 3, view := none } := by simp
    have moving : l.mode.isMoving = true → Calm s (((u.putLane i (some { l with misses := 3, view := none })).report i
        .linkLost).enterTripped i .link 0) := fun moves =>
      lost.trans (calm_enterTripped fun l' e => by rw [lane'] at e; cases e; exact moves)
    dsimp only
    split
    case h_1 mode => exact moving (by rw [mode]; rfl)
    case h_2 mode => exact moving (by rw [mode]; rfl)
    case h_3 => exact (lost.put lane' (standingOf_retrip { l with misses := 3, view := none } _ _)).report _ _
    all_goals exact lost

theorem calm_miss {i : LaneId} {l : Lane} (h : Calm s u) (lane : u.lane i = some l) : Calm s (u.miss i l) := by
  unfold State.miss
  split
  · exact h.put (l' := { l with misses := l.misses + 1 }) lane rfl
  · split
    · exact calm_linkLoss h
    · exact h

end

end Sys2Proof.Pending
end

section
/-! PROOF. The laws of the ports and of their lines hold after every step (O55). -/

namespace Sys2Proof.Pending

open Sys2Proof.Machine Sys2Proof.Safety Sys2Proof.Requests Sys2Proof.PortLaws

section
variable {s t u : State} {c : Ctx}

/-! ## Requests that may wait on the drive link, or make a lane VACANT -/

theorem kept_changing {shape claiming : Bool} {rest : LaneId → Lane → State → Answer × State}
    (goesOn : ∀ i l u, PortsKept s u → PortsKept s (rest i l u).2) : PortsKept s (changing c shape claiming s rest).2 := by
  have outcome := changing_outcome c shape claiming s rest
  generalize changing c shape claiming s rest = out at outcome ⊢
  cases outcome with
  | refused r ne => exact .refl s
  | struck free => exact (calm_struck free).toPortsKept
  | busy u passed => exact (Calm.keyPassed (.refl s) passed).toPortsKept
  | goesOn i l u lane record free passed => exact goesOn i l u (Calm.keyPassed (.refl s) passed).toPortsKept

theorem kept_defineVacant (i : LaneId) : PortsKept s (defineVacant c i s).2 := by
  unfold defineVacant
  dsimp only
  split
  · split
    · exact .refl s
    · split
      · exact .refl s
      · exact (PortsKept.putLane (.refl s) i _).pushControl i _
  · exact .refl s

theorem kept_define : PortsKept s (defineAction c s).2 := by
  unfold defineAction
  split
  · exact .refl s
  · split
    · exact .refl s
    · next i lane =>
      split
      · exact kept_defineVacant i
      · next l record =>
        have outcome := keyed_outcome (claiming := false) lane record fun _ _ u => (.refuse .badState, u)
        generalize keyed c false l s _ = out at outcome ⊢
        cases outcome with
        | refused r ne => exact .refl s
        | struck free => exact (calm_struck free).toPortsKept
        | busy u passed => exact (Calm.keyPassed (.refl s) passed).toPortsKept
        | goesOn i l u lane record free passed => exact (Calm.keyPassed (.refl s) passed).toPortsKept

theorem kept_amend : PortsKept s (amendAction c s).2 := by
  refine kept_changing fun i l u h => ?_
  dsimp only
  split
  · exact h
  · split
    · exact h
    · split
      · exact h
      · split
        · exact h
        · next cfg _ =>
          split
          · exact h
          · split
            · exact h
            · have written := h.putLane i (some (l.amended (amendMask c.req.payload) cfg))
              unfold State.amend
              dsimp only
              split
              · exact written
              · exact written.rest (fun p => by cases p <;> rfl) ⟨rfl, Iff.rfl, rfl, rfl, rfl⟩

theorem kept_retire : PortsKept s (retireAction c s).2 := by
  refine kept_changing fun i l u h => ?_
  split
  · exact h
  · split
    · exact h
    · split
      · exact h
      · exact h.enterVacant i

theorem kept_clearTrip : PortsKept s (clearTripAction c s).2 := by
  refine kept_changing fun i l u h => ?_
  split
  case h_1 => exact h.trans (kept_leaveTripped i false)
  case h_4 => exact (h.putLane i _).pushControl i _
  all_goals exact h

theorem kept_runEngine {row : Instr} {act : Request.Action} (kept : ∀ c u, PortsKept u (act c u).2) (h : runEngine row act s = .next t) :
    PortsKept s t := by
  obtain rfl | ⟨c, serves, rfl⟩ := runEngine_cases h
  · exact .refl _
  · exact ((PortsKept.takeRequest serves.chosen).trans (kept c _)).finish _

/-! ## The end of a transaction -/

theorem kept_readyReply {i : LaneId} (h : PortsKept s u) : PortsKept s (u.readyReply i) := by
  have resolves : ∀ l, PortsKept s (u.resolveOwn i l) := by
    intro l
    unfold State.resolveOwn
    split
    · exact h.trans (kept_leaveTripped ..)
    · exact h.putLane i _
  unfold State.readyReply
  split
  · exact h
  · split
    case h_1 | h_2 => exact resolves _
    all_goals exact h

theorem kept_refEnd {i : LaneId} {l : Lane} {r : Option Reply} (h : PortsKept s u) (lane : u.lane i = some l) :
    PortsKept s (u.refEnd i l r) := by
  unfold State.refEnd
  split
  · exact h.trans (calm_miss (.refl u) lane).toPortsKept
  · dsimp only
    split
    · exact (h.putLane i _).trans (calm_tripReply (.refl _)).toPortsKept
    · exact kept_readyReply (h.putLane i _)

theorem kept_endClear {i : LaneId} {m : Marker} {r : Result} (h : PortsKept s u) : PortsKept s (u.endClear i m r) := by
  unfold State.endClear
  split
  · exact h
  · exact (h.putLane i _).answerLong ..

theorem kept_clearEnd {i : LaneId} {l : Lane} {m : Marker} {r : Option Reply} (h : PortsKept s u) (lane : u.lane i = some l) :
    PortsKept s (u.clearEnd i l m r) := by
  unfold State.clearEnd
  split
  · exact kept_endClear (h.trans (calm_miss (.refl u) lane).toPortsKept)
  · dsimp only
    split
    · exact kept_endClear ((h.putLane i _).trans (calm_tripReply (.refl _)).toPortsKept)
    · exact ((h.putLane i _).trans (kept_leaveTripped ..)).answerLong ..

theorem kept_identEnd {i : LaneId} {l : Lane} {m : Marker} {n : Nat} {r : Option Reply} (h : PortsKept s u) :
    PortsKept s (u.identEnd i l m n r) := by
  unfold State.identEnd
  split
  · exact (h.putLane i _).answerLong ..
  · split
    · exact h.pushControl i _
    · exact (h.enterVacant i).answerLong ..

theorem kept_link (h : PortsKept s u) (link : Link) (frames : List Entry) : PortsKept s { u with link := link, frames := frames } :=
  h.rest (fun p => by cases p <;> rfl) ⟨rfl, Iff.rfl, rfl, rfl, rfl⟩

theorem kept_endTransaction {x : Txn} {r : Option Reply} : PortsKept s (s.endTransaction x r) := by
  have guards : PortsKept s { s with link := .guarding } := kept_link (.refl s) _ _
  unfold State.endTransaction
  dsimp only
  split
  · exact guards
  · split
    · exact guards
    · next l lane =>
      split
      case h_1 => exact kept_identEnd guards
      case h_6 => exact kept_clearEnd guards lane
      case h_2 | h_3 | h_4 | h_5 | h_15 | h_16 => exact guards
      all_goals exact kept_refEnd guards lane

theorem kept_startTransaction (h : PortsKept s u) : PortsKept s u.startTransaction := by
  unfold State.startTransaction
  split
  · split <;> exact kept_link h _ _
  · exact h

/-! ## Events of the lines -/

/-- What a change of the lines must bring for the law of the lines, where the responses at the heads of both orders stand. -/
theorem transmitLaw_of {s t : State} (law : TransmitLaw s) (headU : ∀ k r, s.portU.headResponse = some (k, r) → t.portU.headResponse = some (k, r))
    (headS : ∀ k r, s.portS.headResponse = some (k, r) → t.portS.headResponse = some (k, r)) (uTx : t.uTx = s.uTx) (spi : t.spi = s.spi)
    (framer : t.framer = .hunt ↔ t.gapTimer = none) (inBreak : t.urxLow = true → t.framer = .hunt) : TransmitLaw t where
  sending k cs h := by
    obtain ⟨r, head, rest⟩ := law.sending k cs (uTx ▸ h)
    exact ⟨r, headU k r head, rest⟩
  reading k left bits h := by
    obtain ⟨r, head, rest⟩ := law.reading k left bits (spi ▸ h)
    exact ⟨r, headS k r head, rest⟩
  byte phase bits h := law.byte phase bits (spi ▸ h)
  framer := framer
  inBreak := inBreak

/-- The laws of the ports and of their lines together. -/
def LinesLaw (s : State) : Prop := (∀ p, PortLaw (s.port p)) ∧ TransmitLaw s

theorem linesLaw_of_kept (law : LinesLaw s) (kept : PortsKept s t) : LinesLaw t := by
  obtain ⟨ports, transmit⟩ := law
  refine ⟨fun p => (kept.ports p).law (ports p), transmitLaw_of transmit (kept.ports .u).head (kept.ports .s).head kept.receivers.uTx
    kept.receivers.spi ?_ ?_⟩
  · rw [kept.receivers.framer, kept.receivers.gapTimer]
    exact transmit.framer
  · rw [kept.receivers.framer, kept.receivers.urxLow]
    exact transmit.inBreak

/-- The receivers of the lines change alone, port U's to one that the law allows. -/
theorem linesLaw_receiver (law : LinesLaw s) (ports : ∀ p, PortKeeps (s.port p) (t.port p)) (uTx : t.uTx = s.uTx) (spi : t.spi = s.spi)
    (framer : t.framer = .hunt ↔ t.gapTimer = none) (inBreak : t.urxLow = true → t.framer = .hunt) : LinesLaw t :=
  ⟨fun p => (ports p).law (law.1 p), transmitLaw_of law.2 (ports .u).head (ports .s).head uTx spi framer inBreak⟩

theorem linesLaw_frameEnded {p : PortId} {n : Nat} (law : LinesLaw s) : LinesLaw (s.frameEnded p n) := by
  cases p with
  | s => exact linesLaw_of_kept law (.rest (.refl s) (fun p => by cases p <;> rfl) ⟨rfl, Iff.rfl, rfl, rfl, rfl⟩)
  | u => exact linesLaw_receiver law (fun p => by cases p <;> exact .refl _) rfl rfl ⟨fun _ => rfl, fun _ => rfl⟩ nofun

theorem linesLaw_receive {p : PortId} {bytes : List Byte} (law : LinesLaw s) : LinesLaw (s.receive p bytes) := by
  have ended := linesLaw_frameEnded (p := p) (n := bytes.length) law
  unfold State.receive
  dsimp only
  split
  · exact linesLaw_of_kept ended (.modPort (.refl _) _ _ (portKeeps_arrive ..))
  · exact ended

theorem linesLaw_hunt (law : LinesLaw s) : LinesLaw { s with framer := .hunt, gapTimer := none } :=
  linesLaw_receiver law (fun p => by cases p <;> exact .refl _) rfl rfl ⟨fun _ => rfl, fun _ => rfl⟩ fun _ => rfl

/-- A frame goes on, with its gap timer running and URX high. -/
theorem linesLaw_receiving (law : LinesLaw s) (high : s.urxLow = false) (bytes : List Byte) (n : Nat) :
    LinesLaw { s with framer := .receiving bytes, gapTimer := some n } :=
  linesLaw_receiver law (fun p => by cases p <;> exact .refl _) rfl rfl ⟨nofun, nofun⟩ fun low => by
    rw [show s.urxLow = true from low] at high
    cases high

theorem linesLaw_misoOut (law : LinesLaw s) (out : List Byte) : LinesLaw { s with misoOut := out } :=
  linesLaw_of_kept law (.rest (.refl s) (fun p => by cases p <;> rfl) ⟨rfl, Iff.rfl, rfl, rfl, rfl⟩)

/-- Port S changes while no response is read from it. -/
theorem linesLaw_portS {p : Port} {spi : Spi} (law : LinesLaw s) (port : PortLaw p)
    (reading : ∀ k left bits, spi = .selected (.reading (some k) left) bits →
      ∃ r, p.headResponse = some (k, r) ∧ left <:+ 0xA5#8 :: responseBytes r)
    (byte : ∀ phase bits, spi = .selected phase bits → bits.length < 8) : LinesLaw { s with portS := p, spi := spi } := by
  obtain ⟨ports, transmit⟩ := law
  refine ⟨fun q => ?_, transmit.sending, reading, byte, transmit.framer, transmit.inBreak⟩
  cases q with
  | s => exact port
  | u => exact ports .u

/-- Port U changes while nothing is sent from it. -/
theorem linesLaw_portU {p : Port} {uTx : Transmitter} (law : LinesLaw s) (port : PortLaw p) (quiet : ∀ k cs, uTx ≠ .sending k cs) :
    LinesLaw { s with portU := p, uTx := uTx } := by
  obtain ⟨ports, transmit⟩ := law
  refine ⟨fun q => ?_, fun k cs h => absurd h (quiet k cs), transmit.reading, transmit.byte, transmit.framer, transmit.inBreak⟩
  cases q with
  | s => exact ports .s
  | u => exact port

/-- The transmitter takes characters that the law allows. -/
theorem linesLaw_uTx {uTx : Transmitter} (law : LinesLaw s) (sending : ∀ k cs, uTx = .sending k cs →
    ∃ r, s.portU.headResponse = some (k, r) ∧ cs ≠ [] ∧ cs <:+ 0xA5#8 :: responseBytes r) : LinesLaw { s with uTx := uTx } := by
  obtain ⟨ports, transmit⟩ := law
  exact ⟨fun q => by cases q with
    | s => exact ports .s
    | u => exact ports .u, sending, transmit.reading, transmit.byte, transmit.framer, transmit.inBreak⟩

theorem portS_of_law (law : LinesLaw s) : PortLaw s.portS := law.1 .s

theorem portU_of_law (law : LinesLaw s) : PortLaw s.portU := law.1 .u

theorem linesLaw_atPort {p : PortId} {f : State → State} (law : LinesLaw s) (acts : PortOpen s p → LinesLaw (f s)) :
    LinesLaw (s.atPort p f) := by
  unfold State.atPort
  split
  · next deselected => exact acts fun _ => deselected
  · exact law
  · exact acts nofun

theorem linesLaw_portReset {p : PortId} (law : LinesLaw s) (opened : PortOpen s p) :
    LinesLaw ((s.portStopped p).modPort p Port.portReset) := by
  cases p with
  | s =>
    have deselected := opened rfl
    have port := portS_of_law law
    exact linesLaw_portS (s := { s with misoOut := fillers 1 }) (linesLaw_misoOut law _) (portLaw_portReset port)
      (fun k left bits h => by rw [show s.spi = _ from h] at deselected; cases deselected)
      (fun phase bits h => by rw [show s.spi = _ from h] at deselected; cases deselected)
  | u =>
    have cut : ∀ k cs, s.uTx.cut ≠ .sending k cs := by
      intro k cs
      unfold Transmitter.cut
      split <;> exact nofun
    have stopped := linesLaw_portU (linesLaw_hunt law) (portLaw_portReset (portU_of_law law)) cut
    exact linesLaw_receiver stopped (fun p => by cases p <;> exact .refl _) rfl rfl ⟨fun _ => rfl, fun _ => rfl⟩ fun _ => rfl

theorem linesLaw_readResponse {n : Nat} (law : LinesLaw s) (deselected : s.spi = .deselected) (out : List Byte) :
    LinesLaw (match s.portS.headResponse with
      | some (k, _) => if s.portS.readout.length ≤ n then { s with misoOut := out }.modPort .s (·.deliver k) else { s with misoOut := out }
      | none => { s with misoOut := out }) := by
  have port := portS_of_law law
  split
  · split
    · next k _ _ _ =>
      exact linesLaw_portS (linesLaw_misoOut law out) (portLaw_deliver k port)
        (fun k left bits h => by rw [show s.spi = _ from h] at deselected; cases deselected)
        (fun phase bits h => by rw [show s.spi = _ from h] at deselected; cases deselected)
    · exact linesLaw_misoOut law out
  · exact linesLaw_misoOut law out

/-! ## Port S, pin by pin -/

/-- The transaction goes on in a phase that reads no response. -/
theorem linesLaw_selected {p : Port} {phase : SpiPhase} (law : LinesLaw s) (port : PortLaw p) (silent : ∀ k left, phase ≠ .reading (some k) left) :
    LinesLaw { s with portS := p, spi := .selected phase [] } := by
  refine linesLaw_portS law port (fun k left bits h => ?_) (fun phase' bits h => ?_)
  · cases h
    exact absurd rfl (silent k left)
  · cases h
    exact Nat.zero_lt_succ 7

/-- Bytes left to go in a read-response are a suffix of the response's, one fewer after each byte (R144). -/
theorem linesLaw_reading {slot : Option SlotId} {left : List Byte} (law : LinesLaw s)
    (rest : ∀ k, slot = some k → ∃ r, s.portS.headResponse = some (k, r) ∧ left <:+ 0xA5#8 :: responseBytes r) :
    LinesLaw { s with spi := .selected (.reading slot left) [] } := by
  refine linesLaw_portS law (portS_of_law law) (fun k left bits h => ?_) (fun phase bits h => ?_)
  · cases h
    exact rest k rfl
  · cases h
    exact Nat.zero_lt_succ 7

theorem linesLaw_readout (law : LinesLaw s) :
    LinesLaw { s with spi := .selected (.reading (s.portS.headResponse.map (·.1)) s.portS.readout) [] } := by
  refine linesLaw_reading law fun k slot => ?_
  obtain ⟨⟨k', r⟩, head, rfl⟩ := Option.map_eq_some_iff.1 slot
  refine ⟨r, head, ?_⟩
  unfold Port.readout
  rw [head]

theorem linesLaw_spiByte {phase : SpiPhase} {bits : List Bool} (law : LinesLaw s) (selected : s.spi = .selected phase bits) (b : Byte) :
    LinesLaw (s.spiByte phase b) := by
  have out := linesLaw_misoOut law (s.misoOut ++ [phase.out])
  have port := portS_of_law law
  unfold State.spiByte
  dsimp only
  split
  · split
    · exact linesLaw_selected out port nofun
    · exact linesLaw_readout out
    · exact linesLaw_selected (s := { s with misoOut := _ }) out (portLaw_portReset port) nofun
    · exact linesLaw_selected out port nofun
  · split
    · exact linesLaw_selected out port nofun
    · split
      · split
        · exact linesLaw_selected (s := { s with misoOut := _ }) out ((portKeeps_arrive _ _).law port) nofun
        · exact linesLaw_selected out port nofun
      · exact linesLaw_selected out port nofun
  · next slot left =>
    refine linesLaw_reading out fun k e => ?_
    obtain ⟨r, head, suffix⟩ := law.2.reading k left bits (e ▸ selected)
    exact ⟨r, head, (List.tail_suffix left).trans suffix⟩
  · exact linesLaw_selected out port nofun

theorem linesLaw_spiPulse {mosi : Bool} (law : LinesLaw s) : LinesLaw (s.spiPulse mosi) := by
  unfold State.spiPulse
  split
  · exact law
  · next phase bits selected =>
    split
    · next short =>
      refine linesLaw_portS law (portS_of_law law) (fun k left bits' h => ?_) (fun phase' bits' h => ?_)
      · cases h
        exact law.2.reading k left bits selected
      · cases h
        rw [List.length_append, List.length_singleton]
        omega
    · exact linesLaw_spiByte law selected _

theorem linesLaw_deselect {p : Port} (law : LinesLaw s) (port : PortLaw p) : LinesLaw { s with portS := p, spi := .deselected } :=
  linesLaw_portS law port nofun nofun

theorem linesLaw_urxHigh (law : LinesLaw s) : LinesLaw { s with urxLow := false } :=
  linesLaw_receiver law (fun p => by cases p <;> exact .refl _) rfl rfl law.2.framer nofun

theorem linesLaw_line {e : LineEvent} (law : LinesLaw s) : LinesLaw (s.line e) := by
  have port := portS_of_law law
  unfold State.line
  split
  · cases e with
    | csAssert => exact linesLaw_selected law port nofun
    | csDeassert => exact linesLaw_deselect law port
    | urxHigh => exact linesLaw_urxHigh law
    | sck mosi => exact law
    | utxCharacter => exact law
  · cases e with
    | csAssert =>
      simp only [State.runningLine]
      split
      · exact linesLaw_selected (linesLaw_misoOut law []) port nofun
      · exact law
    | sck mosi => exact linesLaw_spiPulse law
    | csDeassert =>
      simp only [State.runningLine, State.spiEnd]
      split
      · exact linesLaw_deselect (s := s) law (portLaw_deliver _ port)
      · exact linesLaw_deselect law port
    | urxHigh => exact linesLaw_urxHigh law
    | utxCharacter =>
      simp only [State.runningLine]
      split
      · next k first c cs sending =>
        refine linesLaw_uTx law fun k' cs' h => ?_
        cases h
        obtain ⟨r, head, -, suffix⟩ := law.2.sending _ _ sending
        exact ⟨r, head, List.cons_ne_nil _ _, (List.suffix_cons first _).trans suffix⟩
      · exact linesLaw_uTx law nofun
      all_goals exact law

/-! ## Every event -/

theorem linesLaw_whenRunning {f : State → State} (law : LinesLaw s) (acts : LinesLaw (f s)) (h : whenRunning s f = .next t) :
    LinesLaw t := by
  obtain rfl | ⟨-, rfl⟩ := whenRunning_cases h
  · exact law
  · exact acts

theorem linesLaw_clear {p q : Port} {held : Bool} {straps : Straps} (portS : PortLaw p) (portU : PortLaw q) :
    LinesLaw { s.clear straps with held := held, portS := p, portU := q } := by
  have silent : ∀ phase bits, s.spi.abandon = .selected phase bits → phase = .ignoring ∧ bits = [] := by
    intro phase bits h
    unfold Spi.abandon at h
    split at h <;> cases h
    exact ⟨rfl, rfl⟩
  refine ⟨fun r => by cases r <;> assumption, nofun, fun k left bits h => ?_, fun phase bits h => ?_, ⟨fun _ => rfl, fun _ => rfl⟩,
    fun _ => rfl⟩
  · cases (silent _ _ h).1
  · rw [(silent _ _ h).2]
    exact Nat.zero_lt_succ 7

theorem linesLaw_receivedCharacter {b : Byte} (law : LinesLaw s) (h : execReceivedCharacter b s = .next t) : LinesLaw t := by
  unfold execReceivedCharacter at h
  refine linesLaw_whenRunning law ?_ h
  dsimp only
  split
  · exact law
  · next high =>
    have high := Bool.eq_false_iff.2 high
    split
    · split
      · exact linesLaw_receiving law high _ _
      · exact law
    · split
      · exact linesLaw_frameEnded (p := .u) law
      · split
        · exact linesLaw_receive law
        · exact linesLaw_receiving law high _ _

theorem linesLaw_responseSendStart (law : LinesLaw s) (h : execResponseSendStart s = .next t) : LinesLaw t := by
  unfold execResponseSendStart at h
  refine linesLaw_whenRunning law ?_ h
  split
  · next head =>
    refine linesLaw_uTx law fun k' cs' h => ?_
    cases h
    exact ⟨_, head, List.cons_ne_nil _ _, List.suffix_rfl⟩
  all_goals exact law

theorem linesLaw_responseTransmitted (law : LinesLaw s) (h : execResponseTransmitted s = .next t) : LinesLaw t := by
  unfold execResponseTransmitted at h
  have port := portU_of_law law
  refine linesLaw_whenRunning law ?_ h
  split
  · exact linesLaw_portU (s := s) law (portLaw_deliver _ port) nofun
  · exact linesLaw_uTx law nofun
  · exact law

theorem kept_pushRef (h : PortsKept s u) (i : LaneId) : PortsKept s (u.pushRef i) :=
  h.rest (u.port_pushRef i) ⟨by simp, by simp, by simp, by simp, by simp⟩

/-- An update keeps the ports, in whatever state its lane is. -/
theorem kept_laneUpdate {i : LaneId} (h : execLaneUpdate i s = .next t) : PortsKept s t := by
  unfold execLaneUpdate at h
  obtain rfl | ⟨-, rfl⟩ := whenRunning_cases h
  · exact .refl _
  · split
    · exact .refl s
    · split
      · exact .refl s
      · refine kept_pushRef ?_ i
        exact (PortsKept.putLane (.refl s) i _).trans (calm_reportAll (.refl _) i _).toPortsKept

theorem linesLaw_exec {i : Instr} (law : LinesLaw s) (h : exec i s = .next t) : LinesLaw t := by
  have calm : PortsKept s t → LinesLaw t := linesLaw_of_kept law
  have ended : ∀ {row : Instr} {act : Request.Action}, (∀ c u, Ended u (act c u)) → runEngine row act s = .next t → LinesLaw t :=
    fun ended h => calm (calm_runEngine ended h).toPortsKept
  cases i with
  | powerOn straps =>
    obtain rfl := Host.Outcome.next.inj h
    exact linesLaw_clear portLaw_powerOn portLaw_powerOn
  | resetNAssertion straps =>
    obtain rfl := Host.Outcome.next.inj h
    exact linesLaw_clear (portLaw_resetN (portS_of_law law)) (portLaw_resetN (portU_of_law law))
  | resetNRelease =>
    obtain rfl := Host.Outcome.next.inj h
    exact calm (.rest (.refl s) (fun p => by cases p <;> rfl) ⟨rfl, Iff.rfl, rfl, rfl, rfl⟩)
  | haltAssertion => exact calm (calm_haltAssertion h).toPortsKept
  | haltRelease =>
    change execHaltRelease s = _ at h
    unfold execHaltRelease at h
    exact linesLaw_whenRunning law (linesLaw_of_kept law (.rest (.refl s) (fun p => by cases p <;> rfl) ⟨rfl, Iff.rfl, rfl, rfl, rfl⟩)) h
  | goodFrame p bytes =>
    change execGoodFrame p bytes s = _ at h
    unfold execGoodFrame at h
    exact linesLaw_whenRunning law (linesLaw_atPort law fun _ => linesLaw_receive law) h
  | frameDiscard p bytes =>
    change execFrameDiscard p bytes s = _ at h
    unfold execFrameDiscard at h
    exact linesLaw_whenRunning law (linesLaw_atPort law fun _ => linesLaw_frameEnded law) h
  | writeAborted bytes =>
    change execWriteAborted bytes s = _ at h
    unfold execWriteAborted at h
    exact linesLaw_whenRunning law (linesLaw_atPort law fun _ => linesLaw_misoOut law _) h
  | framingError =>
    change execFramingError s = _ at h
    unfold execFramingError at h
    exact linesLaw_whenRunning law (linesLaw_hunt law) h
  | gapTimerExpiry =>
    change execGapTimerExpiry s = _ at h
    unfold execGapTimerExpiry at h
    refine linesLaw_whenRunning law ?_ h
    split
    · exact linesLaw_hunt law
    · exact law
  | portReset p =>
    change execPortReset p s = _ at h
    unfold execPortReset at h
    refine linesLaw_whenRunning law (linesLaw_atPort law fun opened => ?_) h
    split
    · exact law
    · exact linesLaw_portReset law opened
  | readResponse n =>
    change execReadResponse n s = _ at h
    unfold execReadResponse at h
    exact linesLaw_whenRunning law (linesLaw_atPort law fun opened => linesLaw_readResponse law (opened rfl) _) h
  | responseSendStart => exact linesLaw_responseSendStart law h
  | responseTransmitted => exact linesLaw_responseTransmitted law h
  | unknownRequest => exact ended (fun _ _ => ended_unknown) h
  | defineLane => exact calm (kept_runEngine (fun _ _ => kept_define) h)
  | amendLane => exact calm (kept_runEngine (fun _ _ => kept_amend) h)
  | pinLane => exact ended (fun _ _ => ended_pin) h
  | retireLane => exact calm (kept_runEngine (fun _ _ => kept_retire) h)
  | readLane => exact ended (fun _ _ => ended_readLane) h
  | findDrive => exact ended (fun _ _ => ended_findDrive) h
  | listLanes => exact ended (fun _ _ => ended_listLanes) h
  | start => exact ended (fun _ _ => ended_start) h
  | stop => exact ended (fun _ _ => ended_stop) h
  | hold => exact ended (fun _ _ => ended_hold) h
  | resume => exact ended (fun _ _ => ended_resume) h
  | setPoint => exact ended (fun _ _ => ended_setPoint) h
  | setSource => exact ended (fun _ _ => ended_setSource) h
  | setRatio => exact ended (fun _ _ => ended_setRatio) h
  | clearTrip => exact calm (kept_runEngine (fun _ _ => kept_clearTrip) h)
  | appendSegment => exact ended (fun _ _ => ended_append) h
  | runProfile => exact ended (fun _ _ => ended_runProfile) h
  | pauseProfile => exact ended (fun _ _ => ended_pauseProfile) h
  | flushProfile => exact ended (fun _ _ => ended_flushProfile) h
  | readProfile => exact ended (fun _ _ => ended_readProfile) h
  | claim => exact ended (fun _ _ => ended_claim) h
  | release => exact ended (fun _ _ => ended_release) h
  | setLease => exact ended (fun _ _ => ended_setLease) h
  | setAttentionMask => exact ended (fun _ _ => ended_setAttentionMask) h
  | readAttention => exact ended (fun _ _ => ended_readAttention) h
  | ackAttention => exact ended (fun _ _ => ended_ackAttention) h
  | readDevice => exact ended (fun _ _ => ended_readDevice) h
  | nop => exact ended (fun _ _ => ended_nop) h
  | laneUpdate i => exact calm (kept_laneUpdate h)
  | leaseExpiry p => exact calm (calm_leaseExpiry h).toPortsKept
  | transactionStart =>
    change execTransactionStart s = _ at h
    unfold execTransactionStart at h
    exact linesLaw_whenRunning law (linesLaw_of_kept law (kept_startTransaction (.refl s))) h
  | linkFrameSent => exact calm (calm_linkFrameSent h).toPortsKept
  | driveReply bytes =>
    change execDriveReply bytes s = _ at h
    unfold execDriveReply at h
    refine linesLaw_whenRunning law ?_ h
    split
    case h_1 => exact linesLaw_of_kept law kept_endTransaction
    all_goals exact law
  | replyWindowTimeout =>
    change execReplyWindowTimeout s = _ at h
    unfold execReplyWindowTimeout at h
    refine linesLaw_whenRunning law ?_ h
    split
    case h_1 => exact linesLaw_of_kept law kept_endTransaction
    all_goals exact law
  | replyBroken =>
    change execReplyBroken s = _ at h
    unfold execReplyBroken at h
    refine linesLaw_whenRunning law ?_ h
    split
    case h_1 => exact linesLaw_of_kept law kept_endTransaction
    all_goals exact law
  | guardEnd =>
    change execGuardEnd s = _ at h
    unfold execGuardEnd at h
    refine linesLaw_whenRunning law ?_ h
    split
    case h_1 => exact linesLaw_of_kept law (kept_startTransaction (kept_link (.refl s) _ _))
    all_goals exact law
  | receivedCharacter b => exact linesLaw_receivedCharacter law h
  | replyBegun => exact calm (calm_replyBegun h).toPortsKept

/-- The queue and the events of the pins still to come are no part of the laws. -/
theorem linesLaw_queue (law : LinesLaw s) (pending : List Instr) (lineIn : List LineEvent) :
    LinesLaw { s with pending := pending, lineIn := lineIn } :=
  linesLaw_of_kept law (.rest (.refl s) (fun p => by cases p <;> rfl) ⟨rfl, Iff.rfl, rfl, rfl, rfl⟩)

theorem linesLaw_step (law : LinesLaw s) (h : step s = .next t) : LinesLaw t := by
  obtain ⟨c, rest, -, event⟩ | ⟨-, -, rfl⟩ | ⟨e, rest, -, -, rfl⟩ := Records.step_cases h
  · exact linesLaw_exec (linesLaw_queue law rest s.lineIn) event
  · exact linesLaw_of_kept law calm_tick.toPortsKept
  · exact linesLaw_line (linesLaw_queue law s.pending rest)

end

/-- Settles O55: every step keeps the laws of each port, and of the lines the responses at the heads of both orders. -/
theorem stepKeepsPortLaws : Obligations.StepKeepsPortLaws := by
  intro s t strike slot lease mask transmit h
  obtain ⟨ports, lines⟩ := linesLaw_step ⟨portLaw_iff.1 ⟨strike, slot, lease, mask⟩, transmit⟩ h
  obtain ⟨strike, slot, lease, mask⟩ := portLaw_iff.2 ports
  exact ⟨strike, slot, lease, mask, lines⟩

end Sys2Proof.Pending
end

section
/-! PROOF. The pending frame list and the transaction in flight stay lawful after every step (O58). -/

namespace Sys2Proof.Pending

open Sys2Proof.Machine Sys2Proof.Safety Sys2Proof.Requests Sys2Proof.Records

/-! ## One lane's part, event by event -/

section
variable {st : Standing} {es : List FrameKind} {k : FrameKind} {a : Nat}

theorem controlsIn_none (es : List FrameKind) : controlsIn es none = es.filter isControl := List.append_nil _

/-- The end of a REF transaction leaves the control frames. -/
theorem FramesOk.landRef (ok : FramesOk st es (some (.ref, a))) : FramesOk st es none := by
  have controls : controlsIn es none = controlsIn es (some (.ref, a)) := by simp [controlsIn, isControl]
  exact ⟨ok.once, fun defining => ⟨(ok.quiet defining).1, nofun⟩, nofun, fun free => controls.trans (ok.free free),
    fun pending => controls ▸ ok.pending pending⟩

/-- A control frame in flight is the only one, and the one its pending operation calls for. -/
theorem FramesOk.control_in_flight (ok : FramesOk st es (some (k, a))) (control : isControl k = true) :
    st.marker ≠ none ∧ callsFor st.defining k ∧ es.filter isControl = [] := by
  have controls : controlsIn es (some (k, a)) = es.filter isControl ++ [k] := by simp [controlsIn, control]
  have marked : st.marker ≠ none := fun free => by
    have none := ok.free free
    rw [controls] at none
    exact List.append_ne_nil_of_right_ne_nil _ (List.cons_ne_nil _ _) none
  obtain ⟨k', only, calls⟩ := ok.pending marked
  rw [controls] at only
  obtain ⟨empty, same⟩ := List.append_eq_singleton_iff.1 only |>.resolve_right fun h => List.cons_ne_nil _ _ h.2
  exact ⟨marked, List.singleton_inj.1 same ▸ calls, empty⟩

/-- A lane whose entries hold no control frame has no pending operation to wait for (R166). -/
theorem FramesOk.unmarked (ok : FramesOk st es none) (empty : es.filter isControl = []) : st.marker = none := by
  by_contra marked
  obtain ⟨k, only, -⟩ := ok.pending marked
  rw [controlsIn_none, empty] at only
  cases only

/-- A lane in service with no pending operation and no control frame. -/
theorem framesOk_idle (once : es.count .ref ≤ 1) (empty : es.filter isControl = []) :
    FramesOk { address := a, defining := false, marker := none } es none :=
  ⟨once, nofun, nofun, fun _ => (controlsIn_none es).trans empty, fun pending => absurd rfl pending⟩

/-- The oldest entry goes into flight (R168). -/
theorem FramesOk.fly (ok : FramesOk st (k :: es) none) : FramesOk st es (some (k, st.address)) := by
  have controls : ∀ k', controlsIn (k :: es) none = [k'] → controlsIn es (some (k, st.address)) = [k'] := by
    intro k' only
    rw [controlsIn_none] at only
    unfold controlsIn
    cases control : isControl k with
    | true =>
      rw [List.filter_cons_of_pos control] at only
      obtain ⟨rfl, empty⟩ := List.cons_eq_cons.1 only
      simp [empty, control]
    | false =>
      rw [List.filter_cons_of_neg (by simp [control])] at only
      simp [only, control]
  refine ⟨Nat.le_trans (List.count_le_count_cons) ok.once, fun defining => ?_, fun k' a' e => ?_, fun free => ?_, fun pending => ?_⟩
  · have quiet := (ok.quiet defining).1
    exact ⟨fun mem => quiet (List.mem_cons_of_mem _ mem), fun a' e => by cases e; exact quiet List.mem_cons_self⟩
  · cases e
    rfl
  · have none := ok.free free
    rw [controlsIn_none] at none
    unfold controlsIn
    cases control : isControl k with
    | true =>
      rw [List.filter_cons_of_pos control] at none
      cases none
    | false =>
      rw [List.filter_cons_of_neg (by simp [control])] at none
      simp [none, control]
  · obtain ⟨k', only, calls⟩ := ok.pending pending
    exact ⟨k', controls k' only, calls⟩

end

/-! ## The law of all lanes -/

/-- The frame law, lane by lane. -/
def FramesLaw (s : State) : Prop := ∀ i, LaneFrames (standingAt s i) (entriesIn s.frames i) (flightIn s.link i)

section
variable {s t u : State} {c : Ctx} {i : LaneId} {l l' : Lane}

theorem framesLaw_of_kept (law : FramesLaw s) (kept : FramesKept s t) : FramesLaw t := by
  intro i
  rw [kept.standing, kept.flight]
  exact laneFrames_of_calm (kept.entries i) (law i)

theorem framesOk_at (law : FramesLaw s) (lane : s.lane i = some l) :
    FramesOk (standingOf l) (entriesIn s.frames i) (flightIn s.link i) := by
  have mine := law i
  unfold standingAt at mine
  rwa [lane] at mine

theorem standingAt_of_lane {o : Option Lane} (lane : s.lane i = o) : standingAt s i = o.map standingOf :=
  congrArg (Option.map standingOf) lane

/-- One lane's part changes. -/
theorem framesLaw_one {o : Option Standing} {es : List FrameKind} {flight : Option (FrameKind × Nat)} (law : FramesLaw s) (others : ∀ j, j ≠ i → standingAt t j = standingAt s j ∧ entriesIn t.frames j = entriesIn s.frames j
      ∧ flightIn t.link j = flightIn s.link j)
    (standing : standingAt t i = o) (entries : entriesIn t.frames i = es) (flies : flightIn t.link i = flight)
    (mine : LaneFrames o es flight) : FramesLaw t := by
  intro j
  by_cases e : j = i
  · rw [e, standing, entries, flies]
    exact mine
  · obtain ⟨standing, entries, flight⟩ := others j e
    rw [standing, entries, flight]
    exact law j

theorem standingAt_putLane (s : State) (i j : LaneId) (o : Option Lane) :
    standingAt (s.putLane i o) j = if j = i then o.map standingOf else standingAt s j := by
  unfold standingAt
  rw [State.lane_putLane]
  split <;> rfl

/-! ## Requests -/

theorem flightIn_markStale (link : Link) (i j : LaneId) : flightIn (link.markStale i) j = if j = i then none else flightIn link j := by
  have stale : ∀ x : Txn, (if (if x.lane = i then { x with stale := true } else x).lane = j
      ∧ (if x.lane = i then { x with stale := true } else x).stale = false
      then some ((if x.lane = i then { x with stale := true } else x).kind, (if x.lane = i then { x with stale := true } else x).address)
      else none) = if j = i then none else if x.lane = j ∧ x.stale = false then some (x.kind, x.address) else none := by
    intro x
    by_cases mine : x.lane = i
    · by_cases same : j = i
      · simp [mine, same]
      · simp [mine, same, Ne.symm same]
    · by_cases same : j = i
      · subst same
        simp [mine]
      · simp [mine, same]
  unfold flightIn Link.markStale
  cases link with
  | sending x chars => exact stale x
  | awaiting x begun => exact stale x
  | idle => simp [inFlight]
  | guarding => simp [inFlight]

/-- A lane is defined: its IDENT entry is the first and only (R11). -/
theorem framesLaw_define {m : Marker} {cfg : LaneCfg} {src : Source} {setPoint : Int} (law : FramesLaw s) (vacant : s.lane i = none) :
    FramesLaw ((s.putLane i (some (Lane.defined m cfg src setPoint))).pushControl i (.ident 1)) := by
  have mine := law i
  unfold standingAt at mine
  rw [vacant] at mine
  obtain ⟨noEntries, noFlight⟩ := mine
  refine framesLaw_one (i := i) (es := [.ident 1]) law (fun j ne => ⟨?_, ?_, rfl⟩) (standingAt_of_lane (s.lane_putLane_self i _)) ?_ noFlight ?_
  · exact (standingAt_putLane s i j _).trans (if_neg ne)
  · rw [State.pushControl_frames, entriesIn_append, entriesIn_singleton, if_neg ne, List.append_nil]
    rfl
  · rw [State.pushControl_frames, entriesIn_append, entriesIn_singleton, if_pos rfl, State.putLane_frames, noEntries]
    rfl
  · exact ⟨by decide, fun _ => ⟨by decide, nofun⟩, nofun, nofun, fun _ => ⟨.ident 1, rfl, rfl, by decide⟩⟩

theorem framesLaw_enterVacant (law : FramesLaw s) (i : LaneId) : FramesLaw (s.enterVacant i) := by
  have standing : ∀ j, standingAt (s.enterVacant i) j = if j = i then none else standingAt s j := by
    intro j
    unfold standingAt
    rw [State.lane_enterVacant]
    split <;> rfl
  have link : (s.enterVacant i).link = s.link.markStale i := rfl
  refine framesLaw_one (i := i) (o := none) (es := []) (flight := none) law (fun j ne => ⟨?_, ?_, ?_⟩) ?_ ?_ ?_ ⟨rfl, rfl⟩
  · rw [standing, if_neg ne]
  · rw [State.enterVacant_frames, entriesIn_dropLane, if_neg ne]
  · rw [link, flightIn_markStale, if_neg ne]
  · rw [standing, if_pos rfl]
  · rw [State.enterVacant_frames, entriesIn_dropLane, if_pos rfl]
  · rw [link, flightIn_markStale, if_pos rfl]

/-- A pending CLEAR is taken with its entry (R110). -/
theorem framesLaw_clear {m : Marker} (law : FramesLaw s) (lane : s.lane i = some l) (free : l.mode.isPending = false)
    (after : standingOf l' = { standingOf l with marker := some m }) :
    FramesLaw ((s.putLane i (some l')).pushControl i .clear) := by
  have ok := framesOk_at law lane
  rw [standingOf_of_free free] at ok after
  have none := ok.free rfl
  obtain ⟨entries, flight⟩ := List.append_eq_nil_iff.1 none
  refine framesLaw_one (i := i) (es := entriesIn s.frames i ++ [.clear]) law (fun j ne => ⟨?_, ?_, rfl⟩)
    (standingAt_of_lane (s.lane_putLane_self i _)) ?_ rfl ?_
  · exact (standingAt_putLane s i j _).trans (if_neg ne)
  · rw [State.pushControl_frames, entriesIn_append, entriesIn_singleton, if_neg ne, List.append_nil]
    rfl
  · rw [State.pushControl_frames, entriesIn_append, entriesIn_singleton, if_pos rfl]
    rfl
  · rw [Option.map_some, after]
    refine ⟨?_, nofun, ok.address, nofun, fun _ => ⟨.clear, ?_, rfl⟩⟩
    · rw [List.count_append]
      exact ok.once
    · unfold controlsIn
      rw [List.filter_append, entries]
      exact congrArg (FrameKind.clear :: ·) flight

theorem framesLaw_changing {shape claiming : Bool} {rest : LaneId → Lane → State → Answer × State} (law : FramesLaw s)
    (goesOn : ∀ i l u, u.lane i = some l → l.mode.isPending = false → (∀ j, u.lane j = s.lane j) → FramesLaw u → FramesLaw (rest i l u).2) :
    FramesLaw (changing c shape claiming s rest).2 := by
  have outcome := changing_outcome c shape claiming s rest
  generalize changing c shape claiming s rest = out at outcome ⊢
  cases outcome with
  | refused r ne => exact law
  | struck free => exact framesLaw_of_kept law (calm_struck free).toFramesKept
  | busy u passed => exact framesLaw_of_kept law (Calm.keyPassed (.refl s) passed).toFramesKept
  | goesOn i l u lane record free passed =>
    exact goesOn i l u ((lane_of_keyPassed passed i).trans record) free (lane_of_keyPassed passed)
      (framesLaw_of_kept law (Calm.keyPassed (.refl s) passed).toFramesKept)

theorem framesLaw_defineAction (law : FramesLaw s) : FramesLaw (defineAction c s).2 := by
  unfold defineAction
  split
  · exact law
  · split
    · exact law
    · next i lane =>
      split
      · next vacant =>
        unfold defineVacant
        dsimp only
        split
        · split
          · exact law
          · split
            · exact law
            · exact framesLaw_define law vacant
        · exact law
      · next l record =>
        have outcome := keyed_outcome (claiming := false) lane record fun _ _ u => (.refuse .badState, u)
        generalize keyed c false l s _ = out at outcome ⊢
        cases outcome with
        | refused r ne => exact law
        | struck free => exact framesLaw_of_kept law (calm_struck free).toFramesKept
        | busy u passed => exact framesLaw_of_kept law (Calm.keyPassed (.refl s) passed).toFramesKept
        | goesOn i l u lane record free passed => exact framesLaw_of_kept law (Calm.keyPassed (.refl s) passed).toFramesKept

/-- A changed address makes the lane's transaction in flight stale (R163). -/
theorem framesLaw_amend {m : Half} {cfg : LaneCfg} (law : FramesLaw s) (lane : s.lane i = some l) (free : l.mode.isPending = false) :
    FramesLaw (s.amend i m cfg l) := by
  unfold State.amend
  dsimp only
  split
  · next same =>
    have standing : standingOf (l.amended m cfg) = standingOf l := by
      unfold standingOf Lane.amended
      dsimp only
      rw [same]
    exact framesLaw_of_kept law (.put lane standing)
  · have ok := framesOk_at law lane
    rw [standingOf_of_free free] at ok
    refine framesLaw_one (i := i) law (fun j ne => ⟨?_, rfl, ?_⟩) (standingAt_of_lane (s.lane_putLane_self i _)) rfl
      ((flightIn_markStale s.link i i).trans (if_pos rfl)) ?_
    · exact (standingAt_putLane s i j _).trans (if_neg ne)
    · exact (flightIn_markStale s.link i j).trans (if_neg ne)
    · have unmarked : standingOf (l.amended m cfg) = { address := cfg.address, defining := false, marker := none } :=
        standingOf_of_free (l := l.amended m cfg) free
      rw [Option.map_some, unmarked]
      exact framesOk_idle ok.once (List.append_eq_nil_iff.1 (ok.free rfl)).1

theorem framesLaw_amendAction (law : FramesLaw s) : FramesLaw (amendAction c s).2 := by
  refine framesLaw_changing law fun i l u lane free _ h => ?_
  dsimp only
  split
  · exact h
  · split
    · exact h
    · split
      · exact h
      · split
        · exact h
        · split
          · exact h
          · split
            · exact h
            · exact framesLaw_amend h lane free

theorem framesLaw_retire (law : FramesLaw s) : FramesLaw (retireAction c s).2 := by
  refine framesLaw_changing law fun i l u _ _ _ h => ?_
  split
  · exact h
  · split
    · exact h
    · split
      · exact h
      · exact framesLaw_enterVacant h i

theorem clearMarker_of_free {l : Lane} (free : l.mode.isPending = false) : l.mode.clearMarker = none := by
  cases hm : l.mode with
  | tripped c n r m =>
    rw [hm] at free
    cases m with
    | none => rfl
    | some m => cases free
  | _ => rfl

theorem laneLaw_of_lanes (law : LaneLaw s) (lanes : ∀ j, u.lane j = s.lane j) : LaneLaw u :=
  fun j l lane => law j l ((lanes j).symm.trans lane)

theorem framesLaw_clearTrip (lanes : LaneLaw s) (law : FramesLaw s) : FramesLaw (clearTripAction c s).2 := by
  refine framesLaw_changing law fun i l u lane free same h => ?_
  split
  case h_1 =>
    refine framesLaw_of_kept h (calm_leaveTripped (laneLaw_of_lanes lanes same) (fun l' e => ?_) false).toFramesKept
    rw [lane] at e
    cases e
    exact ⟨free, clearMarker_of_free free⟩
  case h_4 mode =>
    refine framesLaw_clear (m := { port := c.port, slot := c.slot }) h lane free ?_
    unfold standingOf
    rw [mode]
    rfl
  all_goals exact h

theorem framesLaw_runEngine {row : Instr} {act : Request.Action} (lanes : LaneLaw s) (law : FramesLaw s)
    (keeps : ∀ c u, LaneLaw u → FramesLaw u → FramesLaw (act c u).2) (h : runEngine row act s = .next t) : FramesLaw t := by
  obtain rfl | ⟨c, -, rfl⟩ := runEngine_cases h
  · exact law
  · have same : ∀ j, (s.takeRequest c).lane j = s.lane j := s.lane_takeRequest c
    have taken : FramesLaw (s.takeRequest c) := framesLaw_of_kept law (.of_same same ⟨by simp, by simp⟩)
    have acted := keeps c _ (laneLaw_of_lanes lanes same) taken
    generalize act c (s.takeRequest c) = out at acted ⊢
    have answers : ∀ f, FramesLaw (out.2.modPort c.port f) := fun f =>
      framesLaw_of_kept acted (.of_same (fun j => State.lane_modPort _ _ _ j) ⟨by simp, by simp⟩)
    cases out.1 with
    | refuse r => exact answers _
    | ok payload => exact answers _
    | wait => exact acted

/-! ## The drive link -/

/-- The oldest entry starts a transaction (R168). -/
theorem framesLaw_startTransaction (law : FramesLaw s) : FramesLaw s.startTransaction := by
  unfold State.startTransaction
  split
  · next e rest link frames =>
    have landed : ∀ j, flightIn s.link j = none := fun j => by rw [link]; rfl
    have head : ∀ j, entriesIn s.frames j = (if j = e.lane then [e.kind] else []) ++ entriesIn rest j := by
      intro j
      rw [frames, show e :: rest = [e] ++ rest from rfl, entriesIn_append, show e = ⟨e.lane, e.kind⟩ from rfl, entriesIn_singleton]
    have others : ∀ j, j ≠ e.lane → entriesIn rest j = entriesIn s.frames j := by
      intro j ne
      rw [head, if_neg ne]
      rfl
    split
    · next vacant =>
      have mine := law e.lane
      unfold standingAt at mine
      rw [vacant] at mine
      obtain ⟨none, -⟩ := mine
      rw [head, if_pos rfl] at none
      cases none
    · next l lane =>
      have ok := framesOk_at law lane
      rw [head, if_pos rfl, landed] at ok
      have flies : ∀ j, flightIn (.sending { lane := e.lane, kind := e.kind, address := l.cfg.address, stale := false } (frameChars e.kind l)) j
          = if j = e.lane then some (e.kind, l.cfg.address) else none := by
        intro j
        by_cases same : j = e.lane <;> simp [flightIn, inFlight, same, eq_comm]
      refine framesLaw_one (i := e.lane) law (fun j ne => ⟨rfl, others j ne, ?_⟩) (standingAt_of_lane lane) rfl
        ((flies e.lane).trans (if_pos rfl)) ok.fly
      rw [flies, if_neg ne, landed]
  · exact law

end

end Sys2Proof.Pending
end

section
/-! PROOF. The end of a transaction and the frame law (O58). -/

namespace Sys2Proof.Pending

open Sys2Proof.Machine Sys2Proof.Safety Sys2Proof.Requests Sys2Proof.Records

section
variable {s t u : State} {i : LaneId} {l l' : Lane}

theorem laneLaw_put (law : LaneLaw s) (lane : s.lane i = some l) (keeps : Keeps l l') : LaneLaw (s.putLane i (some l')) :=
  TableLaws.laneLaw_writes law (writes_putLane s i _) (keeps.ok (law i l lane))

/-! ## A resolution with the root's pending CLEAR overtaken (R112) -/

/-- Every lane's part but the root's in a resolution event is a calm change. -/
theorem calm_foldl_resolve {root : LaneId} {a : Bool} (law : LaneLaw s) : ∀ (js : List LaneId) (u : State), js.Nodup → root ∉ js →
    (∀ j ∈ js, u.lane j = s.lane j) → Calm u (js.foldl (s.resolveOne root a) u) := by
  intro js
  induction js with
  | nil => exact fun u _ _ _ => .refl u
  | cons j js ih =>
    intro u nodup other same
    obtain ⟨new, nodup⟩ := List.nodup_cons.1 nodup
    rw [List.mem_cons, not_or] at other
    refine (calm_resolveOne law (.inl (Ne.symm other.1)) (.refl u) (same j List.mem_cons_self)).trans (ih _ nodup other.2 fun k hk => ?_)
    have ne : k ≠ j := fun e => new (by rwa [← e])
    rw [lane_resolveOne, if_neg ne]
    exact same k (List.mem_cons_of_mem _ hk)

theorem leaves_root (s : State) (root : LaneId) (a : Bool) : s.leaves root a root = some a := by
  unfold State.leaves State.leavesUp
  exact if_pos rfl

/-- A resolution event is the root's own part between two calm changes. -/
theorem leaveTripped_split {root : LaneId} (law : LaneLaw s) (lane : s.lane root = some l) (a : Bool) :
    ∃ u, Calm s u ∧ u.lane root = some l ∧ Calm (u.leaveOne root l a) (s.leaveTripped root a) := by
  obtain ⟨before, after, all⟩ := List.append_of_mem (mem_allLanes root)
  have nodup := allLanes_nodup
  rw [all, List.nodup_append, List.nodup_cons] at nodup
  obtain ⟨nodupBefore, ⟨notAfter, nodupAfter⟩, apart⟩ := nodup
  have notBefore : root ∉ before := fun mem => apart root mem root List.mem_cons_self rfl
  have reached : ∀ j, j ∉ before → (before.foldl (s.resolveOne root a) s).lane j = s.lane j := by
    intro j out
    rw [foldl_lane (g := leaveRecord s root a) (lane_resolveOne s root a) j before nodupBefore, if_neg out]
  have own : s.resolveOne root a (before.foldl (s.resolveOne root a) s) root
      = (before.foldl (s.resolveOne root a) s).leaveOne root l a := by
    unfold State.resolveOne
    rw [lane, leaves_root]
  refine ⟨before.foldl (s.resolveOne root a) s, calm_foldl_resolve law before s nodupBefore notBefore fun _ _ => rfl,
    (reached root notBefore).trans lane, ?_⟩
  unfold State.leaveTripped
  rw [all, List.foldl_append, List.foldl_cons, own]
  refine calm_foldl_resolve law after _ nodupAfter notAfter fun j mem => ?_
  have ne : j ≠ root := fun e => notAfter (by rwa [← e])
  rw [lane_leaveOne, if_neg ne]
  exact reached j fun out => apart j out j (List.mem_cons_of_mem _ mem) rfl

/-- The root leaves with its pending CLEAR answered: its CLEAR entry goes, and none is in flight. -/
theorem framesLaw_leaveOne {a : Bool} (law : FramesLaw s) (lane : s.lane i = some l) (service : isDefining l.mode = false)
    (landed : flightIn s.link i = none) : FramesLaw (s.leaveOne i l a) := by
  have left : standingOf (l.leaveTripped a) = { address := l.cfg.address, defining := false, marker := none } :=
    standingOf_of_free (by cases a <;> rfl)
  have ok := framesOk_at law lane
  rw [landed] at ok
  have written : ∃ w, s.leaveOne i l a = State.preemptClear w i l.mode.clearMarker ∧ (∀ j, w.lane j = if j = i then some (l.leaveTripped a) else s.lane j)
      ∧ SameLink s w := by
    cases a with
    | true => exact ⟨(s.putLane i (some (l.leaveTripped true))).report i .resumed, rfl, fun j => by rw [State.lane_report, State.lane_putLane],
        ⟨by simp, by simp⟩⟩
    | false => exact ⟨_, rfl, fun j => State.lane_putLane .., ⟨rfl, rfl⟩⟩
  obtain ⟨w, split, lanes, link⟩ := written
  have standing : ∀ v : State, (∀ j, v.lane j = w.lane j) → (∀ j, j ≠ i → standingAt v j = standingAt s j)
      ∧ standingAt v i = some { address := l.cfg.address, defining := false, marker := none } := by
    intro v same
    refine ⟨fun j ne => ?_, ?_⟩
    · unfold standingAt
      rw [same, lanes, if_neg ne]
    · rw [standingAt_of_lane ((same i).trans ((lanes i).trans (if_pos rfl))), Option.map_some, left]
  rw [split]
  unfold State.preemptClear
  cases marker : l.mode.clearMarker with
  | none =>
    obtain ⟨others, mine⟩ := standing w fun _ => rfl
    have unmarked : (standingOf l).marker = none := by
      unfold standingOf markerOf
      cases hm : l.mode with
      | defining m => rw [hm] at service; cases service
      | tripped c n r clear =>
        rw [hm] at marker
        exact marker
      | _ => rfl
    refine framesLaw_one (i := i) law (fun j ne => ⟨others j ne, by rw [link.frames], by rw [link.link]⟩) mine (by rw [link.frames])
      (by rw [link.link, landed]) (framesOk_idle ok.once ?_)
    rw [← controlsIn_none]
    exact ok.free unmarked
  | some m =>
    dsimp only
    have link' : (w.modPort m.port (·.answerLong i m.slot .ok [])).link = s.link := by rw [State.modPort_link, link.link]
    have entries : ∀ j, entriesIn (w.frames.filter (· != { lane := i, kind := .clear })) j
        = if j = i then (entriesIn s.frames j).filter (· != .clear) else entriesIn s.frames j := by
      intro j
      rw [entriesIn_dropEntry, link.frames]
    obtain ⟨others, mine⟩ := standing (w.modPort m.port (·.answerLong i m.slot .ok [])) fun j => State.lane_modPort ..
    have marked : (standingOf l).marker ≠ none := by
      unfold standingOf markerOf
      cases hm : l.mode with
      | tripped c n r clear =>
        rw [hm] at marker
        rw [show clear = some m from marker]
        exact nofun
      | _ => rw [hm] at marker; cases marker
    obtain ⟨k, only, calls⟩ := ok.pending marked
    have clear : k = .clear := by
      cases k with
      | clear => rfl
      | ident n =>
        obtain ⟨defining, -⟩ := calls
        rw [show (standingOf l).defining = false from service] at defining
        cases defining
      | ref => exact calls.elim
    rw [controlsIn_none, clear] at only
    refine framesLaw_one (i := i) (es := (entriesIn s.frames i).filter (· != .clear)) law (fun j ne => ⟨others j ne, ?_, ?_⟩) mine ?_
      (flight := none) ?_ (framesOk_idle ?_ ?_)
    · exact (entries j).trans (if_neg ne)
    · exact congrArg (flightIn · j) link'
    · exact (entries i).trans (if_pos rfl)
    · exact (congrArg (flightIn · i) link').trans landed
    · exact Nat.le_trans ((List.filter_sublist).count_le _) ok.once
    · rw [List.filter_comm, only]
      rfl

/-- A resolution while no transaction is in flight. -/
theorem framesLaw_leaveTripped {a : Bool} (lanes : LaneLaw s) (law : FramesLaw s) (lane : s.lane i = some l)
    (service : isDefining l.mode = false) (landed : flightIn s.link i = none) : FramesLaw (s.leaveTripped i a) := by
  obtain ⟨u, before, same, after⟩ := leaveTripped_split lanes lane a
  exact framesLaw_of_kept (framesLaw_leaveOne (framesLaw_of_kept law before.toFramesKept) same service ((before.flight i).trans landed))
    after.toFramesKept

/-! ## The end of a REF transaction -/

theorem framesLaw_readyReply (lanes : LaneLaw s) (law : FramesLaw s) (landed : flightIn s.link i = none) : FramesLaw (s.readyReply i) := by
  unfold State.readyReply
  split
  · exact law
  · next l lane =>
    have resolves : isDefining l.mode = false → FramesLaw (s.resolveOwn i l) := by
      intro service
      unfold State.resolveOwn
      split
      · exact framesLaw_leaveTripped lanes law lane service landed
      · exact framesLaw_of_kept law (.put lane (standingOf_resolve l))
    split
    case h_1 mode => exact resolves (by rw [mode]; rfl)
    case h_2 mode => exact resolves (by rw [mode]; rfl)
    all_goals exact law

theorem framesLaw_refEnd {r : Option Reply} (lanes : LaneLaw s) (law : FramesLaw s) (lane : s.lane i = some l)
    (service : ∀ m, l.mode ≠ .defining m) (view : ∀ x, r = some x → ViewOk x.view) (landed : flightIn s.link i = none) :
    FramesLaw (s.refEnd i l r) := by
  unfold State.refEnd
  split
  · exact framesLaw_of_kept law (calm_miss (.refl s) lane).toFramesKept
  · next r =>
    have heard : FramesLaw (s.putLane i (some (l.heard r.view))) := framesLaw_of_kept law (.put lane rfl)
    dsimp only
    split
    · exact framesLaw_of_kept heard (calm_tripReply (.refl _)).toFramesKept
    · exact framesLaw_readyReply (laneLaw_put lanes lane (keeps_heard (view r rfl) service)) heard landed

/-! ## The end of a control transaction -/

/-- The frame law with one lane's pending operation about to end: none of its control frames is left. -/
structure FramesLawBut (s : State) (i : LaneId) : Prop where
  others : ∀ j, j ≠ i → LaneFrames (standingAt s j) (entriesIn s.frames j) (flightIn s.link j)
  landed : flightIn s.link i = none
  mine : ∃ st, standingAt s i = some st ∧ (entriesIn s.frames i).count .ref ≤ 1 ∧ (entriesIn s.frames i).filter isControl = []

theorem framesLawBut_of_kept (law : FramesLawBut s i) (kept : FramesKept s t) : FramesLawBut t i := by
  obtain ⟨others, landed, st, standing, once, empty⟩ := law
  refine ⟨fun j ne => ?_, (kept.flight i).trans landed, st, (kept.standing i).trans standing, ?_⟩
  · rw [kept.standing, kept.flight]
    exact laneFrames_of_calm (kept.entries j) (others j ne)
  · have idle : LaneFrames (some { address := 0, defining := false, marker := none }) (entriesIn t.frames i) none := by
      refine laneFrames_of_calm (es := entriesIn s.frames i) ?_ (framesOk_idle once empty)
      obtain same | ⟨more, new, -⟩ := kept.entries i
      · exact .inl same
      · exact .inr ⟨more, new, _, rfl, rfl⟩
    have ok : FramesOk _ _ _ := idle
    exact ⟨ok.once, by rw [← controlsIn_none]; exact ok.free rfl⟩

/-- The pending operation ends: the lane's record holds none. -/
theorem framesLaw_ends (law : FramesLawBut s i) (free : l'.mode.isPending = false) : FramesLaw (s.putLane i (some l')) := by
  obtain ⟨others, landed, st, -, once, empty⟩ := law
  have standing : standingAt (s.putLane i (some l')) i = some { address := l'.cfg.address, defining := false, marker := none } := by
    rw [standingAt_of_lane (s.lane_putLane_self i _), Option.map_some, standingOf_of_free free]
  intro j
  by_cases same : j = i
  · subst same
    rw [standing, State.putLane_frames, State.putLane_link, landed]
    exact framesOk_idle once empty
  · rw [standingAt_putLane, if_neg same]
    exact others j same

theorem framesLaw_modPort (law : FramesLaw s) (p : PortId) (f : Port → Port) : FramesLaw (s.modPort p f) :=
  framesLaw_of_kept law (.of_same (fun j => s.lane_modPort p f j) ⟨by simp, by simp⟩)

theorem isPending_dropClear {m : Mode} (service : isDefining m = false) : m.dropClear.isPending = false := by
  cases m with
  | defining m => cases service
  | _ => rfl

theorem framesLaw_endClear {m : Marker} {r : Result} (law : FramesLawBut s i) (service : ∀ st, standingAt s i = some st → st.defining = false) :
    FramesLaw (s.endClear i m r) := by
  unfold State.endClear
  split
  · next vacant =>
    obtain ⟨st, standing, -⟩ := law.mine
    rw [standingAt_of_lane vacant] at standing
    cases standing
  · next l lane =>
    exact framesLaw_modPort (framesLaw_ends law (isPending_dropClear (service _ (standingAt_of_lane lane)))) _ _

theorem framesLaw_clearEnd {m : Marker} {r : Option Reply} (lanes : LaneLaw s) (law : FramesLawBut s i) (lane : s.lane i = some l)
    (tripped : ∃ k n r m, l.mode = .tripped k n r m) (view : ∀ x, r = some x → ViewOk x.view) : FramesLaw (s.clearEnd i l m r) := by
  obtain ⟨k, n, res, clear, mode⟩ := tripped
  have service : ∀ m, l.mode ≠ .defining m := fun m => by rw [mode]; exact nofun
  have standing : ∀ u, Calm s u → ∀ st, standingAt u i = some st → st.defining = false := by
    intro u calm st at'
    rw [calm.standing, standingAt_of_lane lane, Option.map_some] at at'
    cases at'
    exact Bool.eq_false_iff.2 (not_defining_iff.2 service)
  unfold State.clearEnd
  split
  · have missed := calm_miss (.refl s) lane
    exact framesLaw_endClear (framesLawBut_of_kept law missed.toFramesKept) (standing _ missed)
  · next r =>
    dsimp only
    split
    · have tripped : Calm s ((s.putLane i (some (l.heard r.view))).tripReply i r.view.tripCode) :=
        calm_tripReply (Calm.put (.refl s) lane rfl)
      exact framesLaw_endClear (framesLawBut_of_kept law tripped.toFramesKept) (standing _ tripped)
    · have free : ({ l.heard r.view with mode := l.mode.dropClear } : Lane).mode.isPending = false :=
        isPending_dropClear (Bool.eq_false_iff.2 (not_defining_iff.2 service))
      have ended := framesLaw_ends (l' := { l.heard r.view with mode := l.mode.dropClear }) law free
      have lanes' := laneLaw_put lanes lane ((keeps_heard (view r rfl) service).trans (keeps_dropClear (l.heard r.view)))
      refine framesLaw_modPort (framesLaw_of_kept ended (calm_leaveTripped lanes' (fun l' e => ?_) false).toFramesKept) _ _
      rw [State.lane_putLane_self] at e
      cases e
      exact ⟨free, clearMarker_of_free free⟩

/-- The end of an IDENT transaction: identified, tried again, or VACANT (R175, R176). -/
theorem framesLaw_identEnd {m : Marker} {n : Nat} {r : Option Reply} (law : FramesLawBut s i) (lane : s.lane i = some l)
    (defining : l.mode = .defining m) (quiet : .ref ∉ entriesIn s.frames i) (tries : 1 ≤ n) : FramesLaw (s.identEnd i l m n r) := by
  unfold State.identEnd
  split
  · exact framesLaw_modPort (framesLaw_ends law rfl) _ _
  · obtain ⟨others, landed, st, standing, once, empty⟩ := law
    split
    · next again =>
      intro j
      rw [State.pushControl_frames, entriesIn_append, entriesIn_singleton]
      by_cases same : j = i
      · subst same
        rw [if_pos rfl]
        have mine : standingAt (s.pushControl j (.ident (n + 1))) j
            = some { address := l.cfg.address, defining := true, marker := some m } := by
          rw [standingAt_of_lane (show (s.pushControl j (.ident (n + 1))).lane j = some l from lane), Option.map_some]
          unfold standingOf
          rw [defining]
          rfl
        rw [mine, State.pushControl_link, landed]
        refine ⟨?_, fun _ => ⟨?_, nofun⟩, nofun, nofun, fun _ => ⟨.ident (n + 1), ?_, rfl, ?_, ?_⟩⟩
        · rw [List.count_append]
          exact once
        · simpa using quiet
        · rw [controlsIn_none, List.filter_append, empty]
          rfl
        · omega
        · omega
      · rw [if_neg same, List.append_nil]
        exact others j same
    · have vacated : FramesLaw (s.enterVacant i) := by
        intro j
        have standing : standingAt (s.enterVacant i) j = if j = i then none else standingAt s j := by
          unfold standingAt
          rw [State.lane_enterVacant]
          split <;> rfl
        rw [standing, State.enterVacant_frames, entriesIn_dropLane,
          show flightIn (s.enterVacant i).link j = _ from flightIn_markStale s.link i j]
        by_cases same : j = i
        · rw [if_pos same, if_pos same, if_pos same]
          exact ⟨rfl, rfl⟩
        · rw [if_neg same, if_neg same, if_neg same]
          exact others j same
      exact framesLaw_modPort vacated _ _

/-! ## The end of any transaction -/

/-- The transaction in flight as its lane sees it. -/
theorem flightIn_of_inFlight {x : Txn} (flies : inFlight s.link = some x) (j : LaneId) :
    flightIn s.link j = if x.lane = j ∧ x.stale = false then some (x.kind, x.address) else none := by
  unfold flightIn
  rw [flies]

theorem framesLaw_endTransaction {x : Txn} {r : Option Reply} (lanes : LaneLaw s) (law : FramesLaw s) (flies : inFlight s.link = some x)
    (view : ∀ x, r = some x → ViewOk x.view) : FramesLaw (s.endTransaction x r) := by
  have flight := flightIn_of_inFlight flies
  have others : ∀ j, ¬ (x.lane = j ∧ x.stale = false) → LaneFrames (standingAt s j) (entriesIn s.frames j) none := by
    intro j away
    have mine := law j
    rwa [flight, if_neg away] at mine
  unfold State.endTransaction
  dsimp only
  split
  · next stale => exact fun j => others j fun h => by rw [stale] at h; cases h.2
  · next fresh =>
    have fresh := Bool.eq_false_iff.2 fresh
    have away : ∀ j, j ≠ x.lane → ¬ (x.lane = j ∧ x.stale = false) := fun j ne h => ne h.1.symm
    split
    · next vacant =>
      have mine := law x.lane
      rw [standingAt_of_lane (s := s) vacant, flight, if_pos ⟨rfl, fresh⟩] at mine
      cases mine.2
    · next l lane =>
      have ok := framesOk_at law lane
      rw [flight, if_pos ⟨rfl, fresh⟩] at ok
      have but : isControl x.kind = true → FramesLawBut { s with link := .guarding } x.lane := fun control =>
        ⟨fun j ne => others j (away j ne), rfl, _, standingAt_of_lane lane, ok.once, (ok.control_in_flight control).2.2⟩
      have landed : x.kind = .ref → FramesLaw { s with link := .guarding } := by
        intro ref
        rw [ref] at ok
        intro j
        by_cases same : j = x.lane
        · subst same
          rw [show standingAt { s with link := .guarding } x.lane = _ from standingAt_of_lane lane]
          exact ok.landRef
        · exact others j (away j same)
      have marked : isControl x.kind = true → markerOf l.mode ≠ none ∧ callsFor (isDefining l.mode) x.kind := fun control =>
        ⟨(ok.control_in_flight control).1, (ok.control_in_flight control).2.1⟩
      have impossible : ∀ {m : Mode} {k : FrameKind}, x.kind = k → l.mode = m → isControl k = true →
          (markerOf m = none ∨ ¬ callsFor (isDefining m) k) → False := by
        rintro m k kind mode control no
        obtain ⟨marker, calls⟩ := marked (kind ▸ control)
        rw [mode] at marker calls
        rw [kind] at calls
        obtain free | no := no
        · exact marker free
        · exact no calls
      split
      case h_1 n m kind mode =>
        have control : isControl x.kind = true := by rw [kind]; rfl
        obtain ⟨-, calls⟩ := marked control
        rw [kind] at calls
        refine framesLaw_identEnd (but control) lane mode (ok.quiet ?_).1 calls.2.1
        unfold standingOf
        rw [mode]
        rfl
      case h_6 kind mode =>
        exact framesLaw_clearEnd (laneLaw_of_lanes lanes fun _ => rfl) (but (by rw [kind]; rfl)) lane ⟨_, _, _, _, mode⟩ view
      case h_2 | h_3 | h_4 =>
        next kind mode => exact (impossible kind mode rfl (.inl rfl)).elim
      case h_5 kind mode => exact (impossible kind mode rfl (.inr fun calls => by cases calls.1)).elim
      case h_7 | h_8 | h_9 | h_10 =>
        next kind mode => exact (impossible kind mode rfl (.inl rfl)).elim
      case h_15 kind _ => exact landed kind
      case h_16 kind mode => exact (impossible kind mode rfl (.inr nofun)).elim
      all_goals
        next kind mode =>
          exact framesLaw_refEnd (laneLaw_of_lanes lanes fun _ => rfl) (landed kind) lane (by simp [mode]) view rfl

end

end Sys2Proof.Pending
end

section
/-! PROOF. Every event keeps the frame law (O58). -/

namespace Sys2Proof.Pending

open Sys2Proof.Machine Sys2Proof.Safety Sys2Proof.Requests Sys2Proof.Records

section
variable {s t u : State}

theorem framesLaw_vacant (lanes : ∀ i, t.lane i = none) (frames : t.frames = []) (link : t.link = .idle) : FramesLaw t := by
  intro i
  rw [standingAt_of_lane (lanes i), frames, link]
  exact ⟨rfl, rfl⟩

theorem framesLaw_clear_values (lanes : t.lanes = Vector.replicate 24 none) (frames : t.frames = []) (link : t.link = .idle) :
    FramesLaw t :=
  framesLaw_vacant (fun i => by simp [State.lane, lanes]) frames link

/-- A change of the ports and of their lines. -/
structure OnPorts (s t : State) : Prop where
  lanes : ∀ i, t.lane i = s.lane i
  link : SameLink s t

theorem OnPorts.refl (s : State) : OnPorts s s := ⟨fun _ => rfl, rfl, rfl⟩

theorem OnPorts.modPort (h : OnPorts s u) (p : PortId) (f : Port → Port) : OnPorts s (u.modPort p f) :=
  ⟨fun i => (u.lane_modPort p f i).trans (h.lanes i), by rw [State.modPort_link, h.link.link], by rw [State.modPort_frames, h.link.frames]⟩

theorem onPorts_atPort {p : PortId} {f : State → State} (acts : OnPorts s (f s)) : OnPorts s (s.atPort p f) := by
  obtain same | does := LeasePeriods.atPort_cases s p f
  · rw [same]
    exact .refl s
  · rwa [does]

theorem onPorts_frameEnded (p : PortId) (n : Nat) : OnPorts s (s.frameEnded p n) := by
  cases p <;> exact ⟨fun _ => rfl, rfl, rfl⟩

theorem onPorts_receive (p : PortId) (bytes : List Byte) : OnPorts s (s.receive p bytes) := by
  unfold State.receive
  dsimp only
  split
  · exact (onPorts_frameEnded p _).modPort _ _
  · exact onPorts_frameEnded p _

theorem onPorts_whenRunning {f : State → State} (acts : OnPorts s (f s)) (h : whenRunning s f = .next t) : OnPorts s t := by
  obtain rfl | ⟨-, rfl⟩ := whenRunning_cases h
  · exact .refl _
  · exact acts

theorem onPorts_receivedCharacter {b : Byte} (h : execReceivedCharacter b s = .next t) : OnPorts s t := by
  unfold execReceivedCharacter at h
  refine onPorts_whenRunning ?_ h
  dsimp only
  split
  · exact .refl s
  · split
    · split <;> exact ⟨fun _ => rfl, rfl, rfl⟩
    · split
      · exact onPorts_frameEnded .u _
      · split
        · exact onPorts_receive .u _
        · exact ⟨fun _ => rfl, rfl, rfl⟩

theorem onPorts_portReset {p : PortId} (h : execPortReset p s = .next t) : OnPorts s t := by
  unfold execPortReset at h
  refine onPorts_whenRunning (onPorts_atPort ?_) h
  split
  · exact .refl s
  · cases p <;> exact ⟨fun _ => rfl, rfl, rfl⟩

theorem onPorts_readResponse {n : Nat} (h : execReadResponse n s = .next t) : OnPorts s t := by
  unfold execReadResponse at h
  refine onPorts_whenRunning (onPorts_atPort ?_) h
  dsimp only
  split
  · split <;> exact ⟨fun _ => rfl, rfl, rfl⟩
  · exact ⟨fun _ => rfl, rfl, rfl⟩

/-- The events of the ports and of their lines. -/
inductive PortEvent : Instr → Prop
  | goodFrame (p : PortId) (bytes : List Byte) : PortEvent (.goodFrame p bytes)
  | frameDiscard (p : PortId) (bytes : List Byte) : PortEvent (.frameDiscard p bytes)
  | writeAborted (bytes : List Byte) : PortEvent (.writeAborted bytes)
  | framingError : PortEvent .framingError
  | gapTimerExpiry : PortEvent .gapTimerExpiry
  | portReset (p : PortId) : PortEvent (.portReset p)
  | readResponse (n : Nat) : PortEvent (.readResponse n)
  | responseSendStart : PortEvent .responseSendStart
  | responseTransmitted : PortEvent .responseTransmitted
  | receivedCharacter (b : Byte) : PortEvent (.receivedCharacter b)

theorem onPorts_of_portEvent {i : Instr} (event : PortEvent i) (h : exec i s = .next t) : OnPorts s t := by
  cases event with
  | goodFrame p bytes =>
    change execGoodFrame p bytes s = _ at h
    unfold execGoodFrame at h
    exact onPorts_whenRunning (onPorts_atPort (onPorts_receive p bytes)) h
  | frameDiscard p bytes =>
    change execFrameDiscard p bytes s = _ at h
    unfold execFrameDiscard at h
    exact onPorts_whenRunning (onPorts_atPort (onPorts_frameEnded p _)) h
  | writeAborted bytes =>
    change execWriteAborted bytes s = _ at h
    unfold execWriteAborted at h
    exact onPorts_whenRunning (onPorts_atPort ⟨fun _ => rfl, rfl, rfl⟩) h
  | framingError =>
    change execFramingError s = _ at h
    unfold execFramingError at h
    exact onPorts_whenRunning ⟨fun _ => rfl, rfl, rfl⟩ h
  | gapTimerExpiry =>
    change execGapTimerExpiry s = _ at h
    unfold execGapTimerExpiry at h
    exact onPorts_whenRunning (by split <;> exact ⟨fun _ => rfl, rfl, rfl⟩) h
  | portReset p => exact onPorts_portReset h
  | readResponse n => exact onPorts_readResponse h
  | responseSendStart =>
    change execResponseSendStart s = _ at h
    unfold execResponseSendStart at h
    exact onPorts_whenRunning (by split <;> exact ⟨fun _ => rfl, rfl, rfl⟩) h
  | responseTransmitted =>
    change execResponseTransmitted s = _ at h
    unfold execResponseTransmitted at h
    exact onPorts_whenRunning (by split <;> exact ⟨fun _ => rfl, rfl, rfl⟩) h
  | receivedCharacter b => exact onPorts_receivedCharacter h

theorem onPorts_line (e : LineEvent) : OnPorts s (s.line e) := ⟨s.lane_line e, s.link_line e, s.frames_line e⟩

/-- The events that are calm changes of a state of lawful records: the requests that always end in their event, and the events of HALT,
the timers and the link that end no transaction. -/
inductive CalmEvent : Instr → Prop
  | resetNRelease : CalmEvent .resetNRelease
  | haltAssertion : CalmEvent .haltAssertion
  | haltRelease : CalmEvent .haltRelease
  | request (row : Instr) (act : Request.Action) (ended : ∀ c u, Ended u (act c u)) (runs : ∀ s, exec row s = runEngine row act s) : CalmEvent row
  | laneUpdate (i : LaneId) : CalmEvent (.laneUpdate i)
  | leaseExpiry (p : PortId) : CalmEvent (.leaseExpiry p)
  | linkFrameSent : CalmEvent .linkFrameSent
  | replyBegun : CalmEvent .replyBegun

theorem calm_of_calmEvent {i : Instr} (event : CalmEvent i) (lanes : LaneLaw s) (h : exec i s = .next t) : Calm s t := by
  cases event with
  | resetNRelease =>
    obtain rfl := Host.Outcome.next.inj h
    exact .rest (.refl s) (fun _ => rfl) (fun p => by cases p <;> rfl) ⟨rfl, rfl⟩ ⟨rfl, Iff.rfl, rfl, rfl, rfl⟩
  | haltAssertion => exact calm_haltAssertion h
  | haltRelease =>
    change execHaltRelease s = _ at h
    unfold execHaltRelease at h
    obtain rfl | ⟨-, rfl⟩ := whenRunning_cases h
    · exact .refl _
    · exact .rest (.refl s) (fun _ => rfl) (fun p => by cases p <;> rfl) ⟨rfl, rfl⟩ ⟨rfl, Iff.rfl, rfl, rfl, rfl⟩
  | request row act ended runs => exact calm_runEngine ended ((runs s).symm.trans h)
  | laneUpdate i => exact calm_laneUpdate lanes h
  | leaseExpiry p => exact calm_leaseExpiry h
  | linkFrameSent => exact calm_linkFrameSent h
  | replyBegun => exact calm_replyBegun h

/-- Every event but the resets, the four requests that reach pending operations, and the start and the end of a transaction is a calm
change or an event of the ports. -/
inductive EventClass : Instr → Prop
  | reset (i : Instr) (x : Straps) (which : i = .powerOn x ∨ i = .resetNAssertion x) : EventClass i
  | calm {i : Instr} (event : CalmEvent i) : EventClass i
  | port {i : Instr} (event : PortEvent i) : EventClass i
  | define : EventClass .defineLane
  | amend : EventClass .amendLane
  | retire : EventClass .retireLane
  | clearTrip : EventClass .clearTrip
  | starts : EventClass .transactionStart
  | guardEnd : EventClass .guardEnd
  | ends (i : Instr) (which : i = .replyWindowTimeout ∨ i = .replyBroken ∨ ∃ bytes, i = .driveReply bytes) : EventClass i

theorem eventClass (i : Instr) : EventClass i := by
  have request : ∀ {row : Instr} {act : Request.Action}, (∀ c u, Ended u (act c u)) → (∀ s, exec row s = runEngine row act s) → EventClass row :=
    fun ended runs => .calm (.request _ _ ended runs)
  cases i with
  | powerOn x => exact .reset _ x (.inl rfl)
  | resetNAssertion x => exact .reset _ x (.inr rfl)
  | resetNRelease => exact .calm .resetNRelease
  | haltAssertion => exact .calm .haltAssertion
  | haltRelease => exact .calm .haltRelease
  | goodFrame p bytes => exact .port (.goodFrame p bytes)
  | frameDiscard p bytes => exact .port (.frameDiscard p bytes)
  | writeAborted bytes => exact .port (.writeAborted bytes)
  | framingError => exact .port .framingError
  | gapTimerExpiry => exact .port .gapTimerExpiry
  | portReset p => exact .port (.portReset p)
  | readResponse n => exact .port (.readResponse n)
  | responseSendStart => exact .port .responseSendStart
  | responseTransmitted => exact .port .responseTransmitted
  | receivedCharacter b => exact .port (.receivedCharacter b)
  | defineLane => exact .define
  | amendLane => exact .amend
  | retireLane => exact .retire
  | clearTrip => exact .clearTrip
  | unknownRequest => exact request (fun _ _ => ended_unknown) fun _ => rfl
  | pinLane => exact request (fun _ _ => ended_pin) fun _ => rfl
  | readLane => exact request (fun _ _ => ended_readLane) fun _ => rfl
  | findDrive => exact request (fun _ _ => ended_findDrive) fun _ => rfl
  | listLanes => exact request (fun _ _ => ended_listLanes) fun _ => rfl
  | start => exact request (fun _ _ => ended_start) fun _ => rfl
  | stop => exact request (fun _ _ => ended_stop) fun _ => rfl
  | hold => exact request (fun _ _ => ended_hold) fun _ => rfl
  | resume => exact request (fun _ _ => ended_resume) fun _ => rfl
  | setPoint => exact request (fun _ _ => ended_setPoint) fun _ => rfl
  | setSource => exact request (fun _ _ => ended_setSource) fun _ => rfl
  | setRatio => exact request (fun _ _ => ended_setRatio) fun _ => rfl
  | appendSegment => exact request (fun _ _ => ended_append) fun _ => rfl
  | runProfile => exact request (fun _ _ => ended_runProfile) fun _ => rfl
  | pauseProfile => exact request (fun _ _ => ended_pauseProfile) fun _ => rfl
  | flushProfile => exact request (fun _ _ => ended_flushProfile) fun _ => rfl
  | readProfile => exact request (fun _ _ => ended_readProfile) fun _ => rfl
  | claim => exact request (fun _ _ => ended_claim) fun _ => rfl
  | release => exact request (fun _ _ => ended_release) fun _ => rfl
  | setLease => exact request (fun _ _ => ended_setLease) fun _ => rfl
  | setAttentionMask => exact request (fun _ _ => ended_setAttentionMask) fun _ => rfl
  | readAttention => exact request (fun _ _ => ended_readAttention) fun _ => rfl
  | ackAttention => exact request (fun _ _ => ended_ackAttention) fun _ => rfl
  | readDevice => exact request (fun _ _ => ended_readDevice) fun _ => rfl
  | nop => exact request (fun _ _ => ended_nop) fun _ => rfl
  | laneUpdate i => exact .calm (.laneUpdate i)
  | leaseExpiry p => exact .calm (.leaseExpiry p)
  | transactionStart => exact .starts
  | linkFrameSent => exact .calm .linkFrameSent
  | driveReply bytes => exact .ends _ (.inr (.inr ⟨bytes, rfl⟩))
  | replyWindowTimeout => exact .ends _ (.inl rfl)
  | replyBroken => exact .ends _ (.inr (.inl rfl))
  | guardEnd => exact .guardEnd
  | replyBegun => exact .calm .replyBegun

/-- The events that end a transaction end the one in flight, with a valid reply to it or none, or change nothing. -/
theorem ends_cases {i : Instr} (which : i = .replyWindowTimeout ∨ i = .replyBroken ∨ ∃ bytes, i = .driveReply bytes)
    (h : exec i s = .next t) : t = s ∨ ∃ x b r, s.link = .awaiting x b ∧ (∀ y, r = some y → ViewOk y.view) ∧ t = s.endTransaction x r := by
  obtain rfl | rfl | ⟨bytes, rfl⟩ := which
  · change execReplyWindowTimeout s = _ at h
    unfold execReplyWindowTimeout at h
    obtain rfl | ⟨-, rfl⟩ := whenRunning_cases h
    · exact .inl rfl
    · split
      · next x link => exact .inr ⟨x, false, none, link, nofun, rfl⟩
      all_goals exact .inl rfl
  · change execReplyBroken s = _ at h
    unfold execReplyBroken at h
    obtain rfl | ⟨-, rfl⟩ := whenRunning_cases h
    · exact .inl rfl
    · split
      · next x b link => exact .inr ⟨x, b, none, link, nofun, rfl⟩
      all_goals exact .inl rfl
  · change execDriveReply bytes s = _ at h
    unfold execDriveReply at h
    obtain rfl | ⟨-, rfl⟩ := whenRunning_cases h
    · exact .inl rfl
    · split
      · next x b link => exact .inr ⟨x, b, _, link, fun _ => viewOk_of_validReply, rfl⟩
      all_goals exact .inl rfl

theorem framesLaw_exec {i : Instr} (lanes : LaneLaw s) (law : FramesLaw s) (h : exec i s = .next t) : FramesLaw t := by
  cases eventClass i with
  | reset i x which =>
    obtain rfl | rfl := which <;> (obtain rfl := Host.Outcome.next.inj h; exact framesLaw_clear_values rfl rfl rfl)
  | calm event => exact framesLaw_of_kept law (calm_of_calmEvent event lanes h).toFramesKept
  | port event =>
    have ports := onPorts_of_portEvent event h
    exact framesLaw_of_kept law (.of_same ports.lanes ports.link)
  | define => exact framesLaw_runEngine lanes law (fun _ _ _ law => framesLaw_defineAction law) h
  | amend => exact framesLaw_runEngine lanes law (fun _ _ _ law => framesLaw_amendAction law) h
  | retire => exact framesLaw_runEngine lanes law (fun _ _ _ law => framesLaw_retire law) h
  | clearTrip => exact framesLaw_runEngine lanes law (fun _ _ => framesLaw_clearTrip) h
  | starts =>
    change execTransactionStart s = _ at h
    unfold execTransactionStart at h
    obtain rfl | ⟨-, rfl⟩ := whenRunning_cases h
    · exact law
    · exact framesLaw_startTransaction law
  | guardEnd =>
    change execGuardEnd s = _ at h
    unfold execGuardEnd at h
    obtain rfl | ⟨-, rfl⟩ := whenRunning_cases h
    · exact law
    · split
      · next link =>
        refine framesLaw_startTransaction (framesLaw_of_kept law (calm_link ?_).toFramesKept)
        rw [link]
        rfl
      all_goals exact law
  | ends i which =>
    obtain rfl | ⟨x, b, r, link, view, rfl⟩ := ends_cases which h
    · exact law
    · exact framesLaw_endTransaction lanes law (by rw [link]; rfl) view

end

/-- Settles O58: the frame law, taken lane by lane, is kept by every event. -/
theorem stepKeepsFrameLaw : Obligations.StepKeepsFrameLaw := by
  intro s t lanes law h
  refine frameLaw_iff.2 ?_
  have law : FramesLaw s := frameLaw_iff.1 law
  obtain ⟨c, rest, -, event⟩ | ⟨-, -, rfl⟩ | ⟨e, rest, -, -, rfl⟩ := step_cases h
  · exact framesLaw_exec (s := { s with pending := rest }) lanes law event
  · exact framesLaw_of_kept law calm_tick.toFramesKept
  · have ports := onPorts_line (s := { s with lineIn := rest }) e
    exact framesLaw_of_kept (s := { s with lineIn := rest }) law (.of_same ports.lanes ports.link)

end Sys2Proof.Pending
end

section
/-! PROOF. Waiting requests, pending operations and discard lists stay together after every step (O59). -/

namespace Sys2Proof.Pending

open Sys2Proof.Machine Sys2Proof.Safety Sys2Proof.Requests Sys2Proof.Records Sys2Proof.PortLaws

/-- The marker of a lane's pending operation, if it has one. -/
def markerAt (s : State) (i : LaneId) : Option Marker := (standingAt s i).bind Standing.marker

/-- The law of waiting requests, by the markers alone. -/
structure LongOk (s : State) : Prop where
  executing : ∀ p (k : SlotId) x f, (s.port p).slots[k] = .executing x f →
    ∃ i, laneOf x.lane = some i ∧ markerAt s i = some { port := p, slot := k } ∧ i ∉ (s.port p).discard
  marked : ∀ i m, markerAt s i = some m → i ∉ (s.port m.port).discard →
    ∃ x f, (s.port m.port).slots[m.slot] = .executing x f ∧ laneOf x.lane = some i
  owed : ∀ p i, i ∈ (s.port p).discard → ∃ m, markerAt s i = some m ∧ m.port = p

section
variable {s t u w : State} {c : Ctx} {i : LaneId} {l l' : Lane} {m : Marker}

theorem markerAt_of_lane {o : Option Lane} (lane : s.lane i = o) : markerAt s i = o.bind fun l => markerOf l.mode := by
  unfold markerAt
  rw [standingAt_of_lane lane]
  cases o <;> rfl

theorem markerAt_eq_some_iff : markerAt s i = some m ↔ ∃ l, s.lane i = some l ∧ markerOf l.mode = some m := by
  rw [markerAt_of_lane rfl, Option.bind_eq_some_iff]

theorem longLaw_iff : LongLaw s ↔ LongOk s := by
  constructor
  · intro law
    refine ⟨fun p k x f slot => ?_, fun i m marker free => ?_, fun p i mem => ?_⟩
    · obtain ⟨i, l, lane, record, marker, free⟩ := law.executing p k x f slot
      exact ⟨i, lane, markerAt_eq_some_iff.2 ⟨l, record, marker⟩, free⟩
    · obtain ⟨l, record, marker⟩ := markerAt_eq_some_iff.1 marker
      exact law.marked i l m record marker free
    · obtain ⟨l, m, record, marker, port⟩ := law.owed p i mem
      exact ⟨m, markerAt_eq_some_iff.2 ⟨l, record, marker⟩, port⟩
  · intro law
    refine ⟨fun p k x f slot => ?_, fun i l m record marker free => ?_, fun p i mem => ?_⟩
    · obtain ⟨i, lane, marker, free⟩ := law.executing p k x f slot
      obtain ⟨l, record, marker⟩ := markerAt_eq_some_iff.1 marker
      exact ⟨i, l, lane, record, marker, free⟩
    · exact law.marked i m (markerAt_eq_some_iff.2 ⟨l, record, marker⟩) free
    · obtain ⟨m, marker, port⟩ := law.owed p i mem
      obtain ⟨l, record, marker⟩ := markerAt_eq_some_iff.1 marker
      exact ⟨l, m, record, marker, port⟩

/-! ## Changes that leave what waits -/

/-- Every marker and every waiting request stands. -/
structure LongKept (s t : State) : Prop where
  markers : ∀ i, markerAt t i = markerAt s i
  waiting : ∀ p, SameWaiting (s.port p) (t.port p)

theorem LongKept.refl (s : State) : LongKept s s := ⟨fun _ => rfl, fun _ => .refl _⟩

theorem LongKept.trans (h : LongKept s u) (g : LongKept u t) : LongKept s t :=
  ⟨fun i => (g.markers i).trans (h.markers i), fun p => (h.waiting p).trans (g.waiting p)⟩

theorem Calm.longKept (h : Calm s t) : LongKept s t := ⟨fun i => by unfold markerAt; rw [h.standing], h.waiting⟩

/-- A step that reaches neither a lane nor a port. -/
theorem LongKept.rest (h : LongKept s u) (lanes : ∀ i, t.lane i = u.lane i) (ports : ∀ p, t.port p = u.port p) : LongKept s t :=
  h.trans ⟨fun i => by rw [markerAt_of_lane (lanes i), ← markerAt_of_lane rfl], fun p => by rw [ports]; exact .refl _⟩

theorem markerAt_putLane (s : State) (i j : LaneId) (o : Option Lane) :
    markerAt (s.putLane i o) j = if j = i then o.bind fun l => markerOf l.mode else markerAt s j := by
  rw [markerAt_of_lane (s.lane_putLane i j o)]
  split
  · rfl
  · exact (markerAt_of_lane rfl).symm

/-- A record with the same marker is written. -/
theorem LongKept.put (h : LongKept s u) {o : Option Lane} (same : (o.bind fun l => markerOf l.mode) = markerAt u i) :
    LongKept s (u.putLane i o) := by
  refine h.trans ⟨fun j => ?_, fun p => by rw [State.port_putLane]; exact .refl _⟩
  rw [markerAt_putLane]
  split
  · next e => rw [e, same]
  · rfl

theorem longOk_of_kept (law : LongOk s) (kept : LongKept s t) : LongOk t := by
  refine ⟨fun p k x f slot => ?_, fun i m marker free => ?_, fun p i mem => ?_⟩
  · rw [(kept.waiting p).executing] at slot
    obtain ⟨i, lane, marker, free⟩ := law.executing p k x f slot
    exact ⟨i, lane, by rwa [kept.markers], by rwa [(kept.waiting p).discard]⟩
  · rw [kept.markers] at marker
    rw [(kept.waiting m.port).discard] at free
    obtain ⟨x, f, slot, lane⟩ := law.marked i m marker free
    exact ⟨x, f, ((kept.waiting m.port).executing _ _ _).2 slot, lane⟩
  · rw [(kept.waiting p).discard] at mem
    rw [kept.markers]
    exact law.owed p i mem

/-! ## Port resets (R158) -/

theorem executes_iff {x : Slot} : x.executes i = true ↔ ∃ q f, x = .executing q f ∧ laneOf q.lane = some i := by
  unfold Slot.executes
  cases x <;> simp

theorem mem_allSlots (k : SlotId) : k ∈ allSlots := by revert k; decide

/-- The lanes of EXECUTING requests join the discard list. -/
theorem mem_portReset_discard {p : Port} : i ∈ p.portReset.discard ↔ i ∈ p.discard ∨ ∃ (k : SlotId) (q : Request) (f : Bool),
    p.slots[k] = .executing q f ∧ laneOf q.lane = some i := by
  unfold Port.portReset
  simp only [List.mem_filter, mem_allLanes, true_and, Bool.or_eq_true, List.contains_iff_mem, List.any_eq_true, mem_allSlots, executes_iff]

theorem portReset_slots (p : Port) (k : SlotId) : p.portReset.slots[k] = .free := by
  simp [Port.portReset]

/-- The lanes stand, and each port is reset or keeps what waits in it. -/
theorem longOk_of_ports (law : LongOk s) (lanes : ∀ i, t.lane i = s.lane i)
    (ports : ∀ p, SameWaiting (s.port p) (t.port p) ∨ t.port p = (s.port p).portReset) : LongOk t := by
  have markers : ∀ i, markerAt t i = markerAt s i := fun i => by rw [markerAt_of_lane (lanes i), ← markerAt_of_lane rfl]
  refine ⟨fun p k x f slot => ?_, fun i m marker free => ?_, fun p i mem => ?_⟩
  · obtain same | reset := ports p
    · rw [same.executing] at slot
      obtain ⟨i, lane, marker, free⟩ := law.executing p k x f slot
      exact ⟨i, lane, by rwa [markers], by rwa [same.discard]⟩
    · rw [reset, portReset_slots] at slot
      cases slot
  · rw [markers] at marker
    obtain same | reset := ports m.port
    · rw [same.discard] at free
      obtain ⟨x, f, slot, lane⟩ := law.marked i m marker free
      exact ⟨x, f, (same.executing _ _ _).2 slot, lane⟩
    · rw [reset, mem_portReset_discard, not_or] at free
      obtain ⟨x, f, slot, lane⟩ := law.marked i m marker free.1
      exact absurd ⟨m.slot, x, f, slot, lane⟩ free.2
  · rw [markers]
    obtain same | reset := ports p
    · rw [same.discard] at mem
      exact law.owed p i mem
    · rw [reset, mem_portReset_discard] at mem
      obtain mem | ⟨k, x, f, slot, lane⟩ := mem
      · exact law.owed p i mem
      · obtain ⟨j, lane', marker, -⟩ := law.executing p k x f slot
        rw [lane] at lane'
        cases lane'
        exact ⟨_, marker, rfl⟩

/-! ## A pending operation begins (R152) -/

/-- The request that the arbiter chose waits on the drive link, marked by its lane. -/
structure StartsPending (s t : State) (c : Ctx) (i : LaneId) : Prop where
  queued : (s.port c.port).slots[c.slot] = .queued c.req c.lapsed
  lane : laneOf c.req.lane = some i
  before : markerAt s i = none
  after : markerAt t i = some { port := c.port, slot := c.slot }
  others : ∀ j, j ≠ i → markerAt t j = markerAt s j
  waiting : ∀ p, SameWaiting ((s.takeRequest c).port p) (t.port p)

theorem executing_takeRequest (s : State) (c : Ctx) (p : PortId) (k : SlotId) (x : Request) (f : Bool) :
    ((s.takeRequest c).port p).slots[k] = .executing x f ↔
      if p = c.port ∧ k = c.slot then x = c.req ∧ f = c.lapsed else (s.port p).slots[k] = .executing x f := by
  rw [State.port_takeRequest, State.port_modPort]
  by_cases port : p = c.port
  · subst port
    rw [if_pos rfl, Port.slots_setSlot]
    by_cases slot : k = c.slot
    · simp [slot, eq_comm]
    · simp [slot]
  · simp [port]

theorem discard_takeRequest (s : State) (c : Ctx) (p : PortId) : ((s.takeRequest c).port p).discard = (s.port p).discard := by
  rw [State.port_takeRequest, State.port_modPort]
  split
  · next e => rw [e]; rfl
  · rfl

theorem longOk_starts (law : LongOk s) (starts : StartsPending s t c i) : LongOk t := by
  obtain ⟨queued, lane, before, after, others, waiting⟩ := starts
  have slots := fun p k x f => ((waiting p).executing k x f).trans (executing_takeRequest s c p k x f)
  have discard := fun p => (waiting p).discard.trans (discard_takeRequest s c p)
  have apart : ∀ j m, markerAt s j = some m → j ≠ i := fun j m marker e => by
    rw [e, before] at marker
    cases marker
  refine ⟨fun p k x f slot => ?_, fun j m marker free => ?_, fun p j mem => ?_⟩
  · rw [slots] at slot
    split at slot
    · next chosen =>
      obtain ⟨rfl, rfl⟩ := chosen
      obtain ⟨rfl, rfl⟩ := slot
      refine ⟨i, lane, after, fun mem => ?_⟩
      rw [discard] at mem
      obtain ⟨m, marker, -⟩ := law.owed c.port i mem
      exact apart i m marker rfl
    · obtain ⟨j, lane', marker, free⟩ := law.executing p k x f slot
      exact ⟨j, lane', by rwa [others j (apart j _ marker)], by rwa [discard]⟩
  · rw [discard] at free
    by_cases same : j = i
    · subst same
      rw [after] at marker
      cases marker
      exact ⟨c.req, c.lapsed, (slots ..).2 (by rw [if_pos ⟨rfl, rfl⟩]; exact ⟨rfl, rfl⟩), lane⟩
    · rw [others j same] at marker
      obtain ⟨x, f, slot, lane'⟩ := law.marked j m marker free
      refine ⟨x, f, (slots ..).2 ?_, lane'⟩
      split
      · next chosen =>
        obtain ⟨p, k⟩ := m
        obtain ⟨rfl, rfl⟩ := chosen
        rw [queued] at slot
        cases slot
      · exact slot
  · rw [discard] at mem
    obtain ⟨m, marker, port⟩ := law.owed p j mem
    exact ⟨m, by rwa [others j (apart j m marker)], port⟩

/-! ## A pending operation ends (R156) -/

theorem executing_answer_iff (p : Port) (k : SlotId) (r : Result) (payload : List Byte) (j : SlotId) (x : Request) (f : Bool) :
    (p.answer k r payload).slots[j] = .executing x f ↔ j ≠ k ∧ p.slots[j] = .executing x f := by
  cases slot : p.slots[k] with
  | executing q g => exact executing_answer slot r payload j x f
  | _ =>
    have same : p.answer k r payload = p := by
      unfold Port.answer
      rw [slot]
    rw [same]
    refine ⟨fun h => ⟨fun e => ?_, h⟩, fun h => h.2⟩
    rw [e, slot] at h
    cases h

/-- The lane with this marker has it no longer, and the answer went to the marked port. -/
theorem longOk_ends {r : Result} {payload : List Byte} (law : LongOk s) (before : markerAt s i = some m) (after : markerAt w i = none)
    (others : ∀ j, j ≠ i → markerAt w j = markerAt s j) (waiting : ∀ p, SameWaiting (s.port p) (w.port p)) :
    LongOk (w.modPort m.port (·.answerLong i m.slot r payload)) := by
  have markers : ∀ j, markerAt (w.modPort m.port (·.answerLong i m.slot r payload)) j = markerAt w j := fun j => by
    rw [markerAt_of_lane (w.lane_modPort _ _ j), ← markerAt_of_lane rfl]
  have discard : ∀ p j, j ∈ ((w.modPort m.port (·.answerLong i m.slot r payload)).port p).discard
      ↔ j ∈ (s.port p).discard ∧ ¬ (p = m.port ∧ j = i) := by
    intro p j
    rw [State.port_modPort, ← (waiting p).discard]
    by_cases port : p = m.port
    · subst port
      rw [if_pos rfl, Port.answerLong]
      split
      · simp
      · next free =>
        rw [Port.answer_discard]
        have free : i ∉ (w.port m.port).discard := fun mem => free (List.contains_iff_mem.2 mem)
        exact ⟨fun mem => ⟨mem, fun h => free (h.2 ▸ mem)⟩, fun h => h.1⟩
    · simp [port]
  have slots : ∀ p k x f, ((w.modPort m.port (·.answerLong i m.slot r payload)).port p).slots[k] = .executing x f
      ↔ (s.port p).slots[k] = .executing x f ∧ ¬ (p = m.port ∧ k = m.slot ∧ i ∉ (s.port p).discard) := by
    intro p k x f
    rw [State.port_modPort, ← (waiting p).executing, ← (waiting p).discard]
    by_cases port : p = m.port
    · subst port
      rw [if_pos rfl, Port.answerLong]
      split
      · next mem => simp [List.contains_iff_mem.1 mem]
      · next free =>
        have free : i ∉ (w.port m.port).discard := fun mem => free (List.contains_iff_mem.2 mem)
        rw [executing_answer_iff]
        simp [free, and_comm]
    · simp [port]
  refine ⟨fun p k x f slot => ?_, fun j m' marker free => ?_, fun p j mem => ?_⟩
  · obtain ⟨slot, unanswered⟩ := (slots p k x f).1 slot
    obtain ⟨j, lane, marker, free⟩ := law.executing p k x f slot
    have ne : j ≠ i := fun e => by
      rw [e, before] at marker
      cases marker
      exact unanswered ⟨rfl, rfl, e ▸ free⟩
    exact ⟨j, lane, by rw [markers, others j ne, marker], fun mem => free ((discard p j).1 mem).1⟩
  · rw [markers] at marker
    have ne : j ≠ i := fun e => by
      rw [e, after] at marker
      cases marker
    rw [others j ne] at marker
    obtain ⟨x, f, slot, lane⟩ := law.marked j m' marker fun mem => free ((discard _ j).2 ⟨mem, fun h => ne h.2⟩)
    refine ⟨x, f, (slots ..).2 ⟨slot, fun h => ?_⟩, lane⟩
    obtain ⟨p, k⟩ := m'
    obtain ⟨rfl, rfl, free⟩ := h
    obtain ⟨x', f', slot', lane'⟩ := law.marked i m before free
    rw [slot'] at slot
    cases slot
    rw [lane] at lane'
    cases lane'
    exact ne rfl
  · obtain ⟨mem, other⟩ := (discard p j).1 mem
    obtain ⟨m', marker, port⟩ := law.owed p j mem
    have ne : j ≠ i := fun e => by
      rw [e, before] at marker
      cases marker
      exact other ⟨port.symm, e⟩
    exact ⟨m', by rw [markers, others j ne, marker], port⟩

end

end Sys2Proof.Pending
end

section
/-! PROOF. Every event keeps the law of waiting requests (O59). -/

namespace Sys2Proof.Pending

open Sys2Proof.Machine Sys2Proof.Safety Sys2Proof.Requests Sys2Proof.Records Sys2Proof.PortLaws

section
variable {s t u : State} {c : Ctx} {i : LaneId} {l l' : Lane} {m : Marker}

/-! ## Requests -/

theorem markerOf_of_free (free : l.mode.isPending = false) : markerOf l.mode = none :=
  congrArg Standing.marker (standingOf_of_free free)

theorem markerAt_of_free (lane : s.lane i = some l) (free : l.mode.isPending = false) : markerAt s i = none := by
  rw [markerAt_of_lane lane]
  exact markerOf_of_free free

/-- What the own steps of a request come to, in a state of lawful waiting requests: it ends in its event with what waits standing, or it
waits, marked by its lane. -/
def LongAction (s : State) (c : Ctx) (out : Answer × State) : Prop :=
  (out.1 ≠ .wait ∧ LongKept s out.2) ∨ ∃ i, out.1 = .wait ∧ laneOf c.req.lane = some i ∧ markerAt s i = none
    ∧ markerAt out.2 i = some { port := c.port, slot := c.slot } ∧ (∀ j, j ≠ i → markerAt out.2 j = markerAt s j)
    ∧ ∀ p, SameWaiting (s.port p) (out.2.port p)

theorem longAction_of_ended {out : Answer × State} (ended : Ended s out) : LongAction s c out :=
  .inl ⟨ended.answered, ended.calm.longKept⟩

theorem longAction_trans {out : Answer × State} (h : LongKept s u) (action : LongAction u c out) : LongAction s c out := by
  obtain ⟨answered, kept⟩ | ⟨i, waits, lane, before, after, others, waiting⟩ := action
  · exact .inl ⟨answered, h.trans kept⟩
  · exact .inr ⟨i, waits, lane, (h.markers i).symm.trans before, after, fun j ne => (others j ne).trans (h.markers j),
      fun p => (h.waiting p).trans (waiting p)⟩

theorem longAction_changing {shape claiming : Bool} {rest : LaneId → Lane → State → Answer × State}
    (goesOn : ∀ i l u, laneOf c.req.lane = some i → u.lane i = some l → l.mode.isPending = false → (∀ j, u.lane j = s.lane j) →
      LongAction u c (rest i l u)) : LongAction s c (changing c shape claiming s rest) := by
  have outcome := changing_outcome c shape claiming s rest
  generalize changing c shape claiming s rest = out at outcome ⊢
  cases outcome with
  | refused r ne => exact longAction_of_ended (ended_refuse (.refl s) r)
  | struck free => exact longAction_of_ended (ended_refuse (calm_struck free) .key)
  | busy u passed => exact longAction_of_ended (ended_refuse (.keyPassed (.refl s) passed) .laneBusy)
  | goesOn i l u lane record free passed =>
    exact longAction_trans (Calm.keyPassed (.refl s) passed).longKept
      (goesOn i l u lane ((lane_of_keyPassed passed i).trans record) free (lane_of_keyPassed passed))

theorem longAction_refuse (r : Result) : LongAction s c (.refuse r, s) := longAction_of_ended (ended_refuse (.refl s) r)

theorem longAction_ok {payload : List Byte} : LongAction s c (.ok payload, s) := longAction_of_ended (ended_ok (.refl s) payload)

/-- A request waits with its marker on the lane that it addresses. -/
theorem longAction_wait {o : Option Lane} {k : FrameKind} (lane : laneOf c.req.lane = some i) (before : markerAt s i = none)
    (after : (o.bind fun l => markerOf l.mode) = some { port := c.port, slot := c.slot }) :
    LongAction s c (.wait, (s.putLane i o).pushControl i k) := by
  refine .inr ⟨i, rfl, lane, before, ?_, fun j ne => ?_, fun p => ?_⟩
  · exact (markerAt_putLane s i i o).trans ((if_pos rfl).trans after)
  · exact (markerAt_putLane s i j o).trans (if_neg ne)
  · rw [State.port_pushControl, State.port_putLane]
    exact .refl _

theorem longAction_define : LongAction s c (defineAction c s) := by
  unfold defineAction
  split
  · exact longAction_refuse _
  · split
    · exact longAction_refuse _
    · next i lane =>
      split
      · next vacant =>
        unfold defineVacant
        dsimp only
        split
        · split
          · exact longAction_refuse _
          · split
            · exact longAction_refuse _
            · exact longAction_wait lane (markerAt_of_lane vacant) rfl
        · exact longAction_refuse _
      · next l record =>
        have outcome := keyed_outcome (claiming := false) lane record fun _ _ u => (.refuse .badState, u)
        generalize keyed c false l s _ = out at outcome ⊢
        cases outcome with
        | refused r ne => exact longAction_refuse r
        | struck free => exact longAction_of_ended (ended_refuse (calm_struck free) .key)
        | busy u passed => exact longAction_of_ended (ended_refuse (.keyPassed (.refl s) passed) .laneBusy)
        | goesOn i l u lane record free passed => exact longAction_of_ended (ended_refuse (.keyPassed (.refl s) passed) .badState)

theorem longKept_amend {half : Half} {cfg : LaneCfg} (lane : s.lane i = some l) (free : l.mode.isPending = false) :
    LongKept s (s.amend i half cfg l) := by
  have written : LongKept s (s.putLane i (some (l.amended half cfg))) :=
    LongKept.put (.refl s) ((markerOf_of_free (l := l.amended half cfg) free).trans (markerAt_of_free lane free).symm)
  unfold State.amend
  dsimp only
  split
  · exact written
  · exact written.rest (fun _ => rfl) (fun p => by cases p <;> rfl)

theorem longAction_amend : LongAction s c (amendAction c s) := by
  refine longAction_changing fun i l u _ lane free _ => ?_
  dsimp only
  split
  · exact longAction_ok
  · split
    · exact longAction_refuse _
    · split
      · exact longAction_refuse _
      · split
        · exact longAction_refuse _
        · split
          · exact longAction_refuse _
          · split
            · exact longAction_refuse _
            · exact .inl ⟨nofun, longKept_amend lane free⟩

theorem sameWaiting_dropLane (p : Port) (i : LaneId) : SameWaiting p (p.dropLane i) := .of_same rfl rfl

theorem sameWaiting_enterVacant (p : PortId) : SameWaiting (s.port p) ((s.enterVacant i).port p) := by
  cases p
  · exact sameWaiting_dropLane s.portS i
  · exact sameWaiting_dropLane s.portU i

theorem markerAt_enterVacant (j : LaneId) : markerAt (s.enterVacant i) j = if j = i then none else markerAt s j := by
  rw [markerAt_of_lane (s.lane_enterVacant i j)]
  split
  · rfl
  · exact (markerAt_of_lane rfl).symm

theorem longAction_retire : LongAction s c (retireAction c s) := by
  refine longAction_changing fun i l u _ lane free _ => ?_
  split
  · exact longAction_refuse _
  · split
    · exact longAction_refuse _
    · split
      · exact longAction_refuse _
      · refine .inl ⟨nofun, fun j => ?_, sameWaiting_enterVacant⟩
        rw [markerAt_enterVacant]
        split
        · next e => rw [e, markerAt_of_free lane free]
        · rfl

theorem longAction_clearTrip (lanes : LaneLaw s) : LongAction s c (clearTripAction c s) := by
  refine longAction_changing fun i l u at' lane free same => ?_
  split
  case h_1 =>
    refine longAction_of_ended (ended_ok (calm_leaveTripped (laneLaw_of_lanes lanes same) (fun l' e => ?_) false) [])
    rw [lane] at e
    cases e
    exact ⟨free, clearMarker_of_free free⟩
  case h_4 => exact longAction_wait at' (markerAt_of_free lane free) rfl
  all_goals exact longAction_refuse _

theorem longOk_runEngine {row : Instr} {act : Request.Action} (lanes : LaneLaw s) (law : LongOk s)
    (acts : ∀ c u, LaneLaw u → LongAction u c (act c u)) (h : runEngine row act s = .next t) : LongOk t := by
  obtain rfl | ⟨c, serves, rfl⟩ := runEngine_cases h
  · exact law
  · have same : ∀ j, (s.takeRequest c).lane j = s.lane j := s.lane_takeRequest c
    have action := acts c _ (laneLaw_of_lanes lanes same)
    have taken : ∀ j, markerAt (s.takeRequest c) j = markerAt s j := fun j => by
      rw [markerAt_of_lane (same j), ← markerAt_of_lane rfl]
    generalize act c (s.takeRequest c) = out at action ⊢
    obtain ⟨a, u⟩ := out
    obtain ⟨answered, kept⟩ | ⟨i, waits, lane, before, after, others, waiting⟩ := action
    · refine longOk_of_kept law ⟨fun j => ?_, sameWaiting_finish serves.chosen answered kept.waiting⟩
      rw [markerAt_of_lane (show (u.finish c a).lane j = u.lane j from ?_), ← markerAt_of_lane rfl, kept.markers, taken]
      cases a with
      | wait => rfl
      | _ => exact u.lane_modPort _ _ j
    · obtain rfl : a = .wait := waits
      exact longOk_starts law ⟨State.choice_slot serves.chosen, lane, (taken i).symm.trans before, after,
        fun j ne => (others j ne).trans (taken j), waiting⟩

/-! ## The end of a transaction -/

theorem clearMarker_eq (service : isDefining l.mode = false) : l.mode.clearMarker = markerOf l.mode := by
  cases hm : l.mode with
  | defining m => rw [hm] at service; cases service
  | _ => rfl

/-- A lane leaves TRIPPED, and its pending CLEAR is answered. -/
theorem longOk_leaveOne {a : Bool} (law : LongOk s) (lane : s.lane i = some l) (service : isDefining l.mode = false) :
    LongOk (s.leaveOne i l a) := by
  have left : markerOf (l.leaveTripped a).mode = none := by cases a <;> rfl
  have written : ∃ w, s.leaveOne i l a = State.preemptClear w i l.mode.clearMarker ∧ markerAt w i = none
      ∧ (∀ j, j ≠ i → markerAt w j = markerAt s j) ∧ ∀ p, SameWaiting (s.port p) (w.port p) := by
    have put : ∀ j, markerAt (s.putLane i (some (l.leaveTripped a))) j = if j = i then none else markerAt s j := fun j => by
      rw [markerAt_putLane, Option.bind_some, left]
    cases a with
    | true =>
      have reported := (Calm.report (.refl (s.putLane i (some (l.leaveTripped true)))) i .resumed).longKept
      refine ⟨_, rfl, (reported.markers i).trans ((put i).trans (if_pos rfl)), fun j ne => (reported.markers j).trans ((put j).trans (if_neg ne)),
        fun p => ?_⟩
      have waiting := reported.waiting p
      rwa [State.port_putLane] at waiting
    | false =>
      refine ⟨_, rfl, (put i).trans (if_pos rfl), fun j ne => (put j).trans (if_neg ne), fun p => ?_⟩
      change SameWaiting _ ((s.putLane i _).port p)
      rw [State.port_putLane]
      exact .refl _
  obtain ⟨w, split, after, others, waiting⟩ := written
  have before : markerAt s i = l.mode.clearMarker := (markerAt_of_lane lane).trans (clearMarker_eq service).symm
  rw [split]
  unfold State.preemptClear
  cases marker : l.mode.clearMarker with
  | none =>
    refine longOk_of_kept law ⟨fun j => ?_, waiting⟩
    by_cases same : j = i
    · rw [same, after, before, marker]
    · exact others j same
  | some m =>
    have ended := longOk_ends (r := .ok) (payload := []) law (before.trans marker) after others waiting
    exact longOk_of_kept ended (.rest (.refl _) (fun _ => rfl) (fun p => by cases p <;> rfl))

theorem longOk_leaveTripped {a : Bool} (lanes : LaneLaw s) (law : LongOk s) (lane : s.lane i = some l) (service : isDefining l.mode = false) :
    LongOk (s.leaveTripped i a) := by
  obtain ⟨u, before, same, after⟩ := leaveTripped_split lanes lane a
  exact longOk_of_kept (longOk_leaveOne (longOk_of_kept law before.longKept) same service) after.longKept

theorem longOk_readyReply (lanes : LaneLaw s) (law : LongOk s) : LongOk (s.readyReply i) := by
  unfold State.readyReply
  split
  · exact law
  · next l lane =>
    have resolves : isDefining l.mode = false → LongOk (s.resolveOwn i l) := by
      intro service
      unfold State.resolveOwn
      split
      · exact longOk_leaveTripped lanes law lane service
      · exact longOk_of_kept law (Calm.put (.refl s) lane (standingOf_resolve l)).longKept
    split
    case h_1 mode => exact resolves (by rw [mode]; rfl)
    case h_2 mode => exact resolves (by rw [mode]; rfl)
    all_goals exact law

theorem longOk_refEnd {r : Option Reply} (lanes : LaneLaw s) (law : LongOk s) (lane : s.lane i = some l)
    (service : ∀ m, l.mode ≠ .defining m) (view : ∀ x, r = some x → ViewOk x.view) : LongOk (s.refEnd i l r) := by
  unfold State.refEnd
  split
  · exact longOk_of_kept law (calm_miss (.refl s) lane).longKept
  · next r =>
    have heard : Calm s (s.putLane i (some (l.heard r.view))) := Calm.put (.refl s) lane rfl
    dsimp only
    split
    · exact longOk_of_kept law (calm_tripReply heard).longKept
    · exact longOk_readyReply (laneLaw_put lanes lane (keeps_heard (view r rfl) service)) (longOk_of_kept law heard.longKept)

/-- The lane's record loses its marker, and the answer of its long request goes to the port. -/
theorem longOk_put_answer {r : Result} {payload : List Byte} (law : LongOk s) (marker : markerAt s i = some m) (free : markerOf l'.mode = none) :
    LongOk ((s.putLane i (some l')).modPort m.port (·.answerLong i m.slot r payload)) :=
  longOk_ends law marker ((markerAt_putLane s i i _).trans ((if_pos rfl).trans free))
    (fun j ne => (markerAt_putLane s i j _).trans (if_neg ne)) fun p => by rw [State.port_putLane]; exact .refl _

theorem markerOf_dropClear {k : Mode} (service : isDefining k = false) : markerOf k.dropClear = none := by
  cases k with
  | defining m => cases service
  | _ => rfl

theorem longOk_endClear {r : Result} (law : LongOk s) (lane : s.lane i = some l) (service : isDefining l.mode = false)
    (marker : markerOf l.mode = some m) : LongOk (s.endClear i m r) := by
  unfold State.endClear
  rw [lane]
  exact longOk_put_answer law ((markerAt_of_lane lane).trans marker) (markerOf_dropClear service)

/-- A calm change leaves a lane's standing in its record. -/
theorem Calm.record (h : Calm s u) (lane : s.lane i = some l) : ∃ l', u.lane i = some l' ∧ standingOf l' = standingOf l := by
  have same := h.standing i
  rw [standingAt_of_lane lane] at same
  exact Option.map_eq_some_iff.1 same

theorem longOk_clearEnd {r : Option Reply} (lanes : LaneLaw s) (law : LongOk s) (lane : s.lane i = some l)
    (tripped : ∃ k n r, l.mode = .tripped k n r (some m)) (view : ∀ x, r = some x → ViewOk x.view) : LongOk (s.clearEnd i l m r) := by
  obtain ⟨k, n, res, mode⟩ := tripped
  have service : ∀ m, l.mode ≠ .defining m := fun m => by rw [mode]; exact nofun
  have inService : isDefining l.mode = false := Bool.eq_false_iff.2 (not_defining_iff.2 service)
  have marker : markerOf l.mode = some m := by rw [mode]; rfl
  have ends : ∀ {u r}, Calm s u → LongOk (u.endClear i m r) := by
    intro u r calm
    obtain ⟨l', lane', same⟩ := calm.record lane
    exact longOk_endClear (longOk_of_kept law calm.longKept) lane' ((congrArg Standing.defining same).trans inService)
      ((congrArg Standing.marker same).trans marker)
  unfold State.clearEnd
  split
  · exact ends (calm_miss (.refl s) lane)
  · next r =>
    dsimp only
    split
    · exact ends (calm_tripReply (Calm.put (.refl s) lane rfl))
    · have free : ({ l.heard r.view with mode := l.mode.dropClear } : Lane).mode.isPending = false := isPending_dropClear inService
      have lanes' := laneLaw_put lanes lane ((keeps_heard (view r rfl) service).trans (keeps_dropClear (l.heard r.view)))
      have left := (calm_leaveTripped (root := i) lanes' (fun l' e => by
        rw [State.lane_putLane_self] at e
        cases e
        exact ⟨free, clearMarker_of_free free⟩) false).longKept
      refine longOk_ends law ((markerAt_of_lane lane).trans marker) ((left.markers i).trans ?_) (fun j ne => (left.markers j).trans ?_)
        fun p => ?_
      · exact (markerAt_putLane s i i _).trans ((if_pos rfl).trans (markerOf_dropClear inService))
      · exact (markerAt_putLane s i j _).trans (if_neg ne)
      · have waiting := left.waiting p
        rwa [State.port_putLane] at waiting

theorem longOk_identEnd {n : Nat} {r : Option Reply} (law : LongOk s) (lane : s.lane i = some l) (defining : l.mode = .defining m) :
    LongOk (s.identEnd i l m n r) := by
  have marker : markerAt s i = some m := by
    rw [markerAt_of_lane lane, Option.bind_some, defining]
    rfl
  unfold State.identEnd
  split
  · exact longOk_put_answer law marker rfl
  · split
    · exact longOk_of_kept law (.rest (.refl s) (fun _ => rfl) (fun p => s.port_pushControl _ _ p))
    · exact longOk_ends law marker ((markerAt_enterVacant i).trans (if_pos rfl)) (fun j ne => (markerAt_enterVacant j).trans (if_neg ne))
        sameWaiting_enterVacant

theorem longKept_link (link : Link) (frames : List Entry) : LongKept s { s with link := link, frames := frames } :=
  .rest (.refl s) (fun _ => rfl) (fun p => by cases p <;> rfl)

theorem longOk_endTransaction {x : Txn} {r : Option Reply} (lanes : LaneLaw s) (law : LongOk s) (view : ∀ x, r = some x → ViewOk x.view) :
    LongOk (s.endTransaction x r) := by
  have guards : LongOk { s with link := .guarding } := longOk_of_kept law (longKept_link _ _)
  have lanes' : LaneLaw { s with link := .guarding } := laneLaw_of_lanes lanes fun _ => rfl
  unfold State.endTransaction
  dsimp only
  split
  · exact guards
  · split
    · exact guards
    · next l lane =>
      split
      case h_1 m _ mode => exact longOk_identEnd guards lane mode
      case h_6 mode => exact longOk_clearEnd lanes' guards lane ⟨_, _, _, mode⟩ view
      case h_2 | h_3 | h_4 | h_5 | h_15 | h_16 => exact guards
      all_goals next mode => exact longOk_refEnd lanes' guards lane (by simp [mode]) view

theorem longKept_startTransaction : LongKept s s.startTransaction := by
  unfold State.startTransaction
  split
  · split <;> exact longKept_link _ _
  · exact .refl s

/-! ## Events of the ports -/

/-- A port keeps what waits in it, or is reset. -/
def WaitsOrReset (s t : State) : Prop := ∀ p, SameWaiting (s.port p) (t.port p) ∨ t.port p = (s.port p).portReset

theorem waits_refl (s : State) : WaitsOrReset s s := fun _ => .inl (.refl _)

theorem waits_of_same (ports : ∀ p, t.port p = s.port p) : WaitsOrReset s t := fun p => .inl (by rw [ports]; exact .refl _)

theorem waits_atPort {p : PortId} {f : State → State} (acts : WaitsOrReset s (f s)) : WaitsOrReset s (s.atPort p f) := by
  obtain same | does := LeasePeriods.atPort_cases s p f
  · rw [same]
    exact waits_refl s
  · rwa [does]

theorem waits_whenRunning {f : State → State} (acts : WaitsOrReset s (f s)) (h : whenRunning s f = .next t) : WaitsOrReset s t := by
  obtain rfl | ⟨-, rfl⟩ := whenRunning_cases h
  · exact waits_refl _
  · exact acts

theorem waits_frameEnded (p : PortId) (n : Nat) : WaitsOrReset s (s.frameEnded p n) :=
  waits_of_same fun q => by cases p <;> cases q <;> rfl

theorem waits_modPort {p : PortId} {f : Port → Port} (ports : ∀ q, u.port q = s.port q) (waits : SameWaiting (s.port p) (f (s.port p))) :
    WaitsOrReset s (u.modPort p f) := by
  intro q
  rw [State.port_modPort, ports, ports]
  split
  · next e => exact .inl (e ▸ waits)
  · exact .inl (.refl _)

theorem waits_receive (p : PortId) (bytes : List Byte) : WaitsOrReset s (s.receive p bytes) := by
  unfold State.receive
  dsimp only
  split
  · exact waits_modPort (fun q => by cases p <;> cases q <;> rfl) (sameWaiting_arrive _ _)
  · exact waits_frameEnded p _

/-- A response that leaves is an ANSWERED one (R144, R147). -/
theorem sameWaiting_deliver_head {p : Port} {k : SlotId} {r : Response} (head : p.headResponse = some (k, r)) :
    SameWaiting p (p.deliver k) := by
  obtain ⟨-, -, answered⟩ := headResponse_eq_some_iff.1 head
  exact sameWaiting_deliver answered

theorem waits_of_portEvent {e : Instr} (transmit : TransmitLaw s) (event : PortEvent e) (h : exec e s = .next t) : WaitsOrReset s t := by
  cases event with
  | goodFrame p bytes =>
    change execGoodFrame p bytes s = _ at h
    unfold execGoodFrame at h
    exact waits_whenRunning (waits_atPort (waits_receive p bytes)) h
  | frameDiscard p bytes =>
    change execFrameDiscard p bytes s = _ at h
    unfold execFrameDiscard at h
    exact waits_whenRunning (waits_atPort (waits_frameEnded p _)) h
  | writeAborted bytes =>
    change execWriteAborted bytes s = _ at h
    unfold execWriteAborted at h
    exact waits_whenRunning (waits_atPort (waits_of_same fun p => by cases p <;> rfl)) h
  | framingError =>
    change execFramingError s = _ at h
    unfold execFramingError at h
    exact waits_whenRunning (waits_of_same fun p => by cases p <;> rfl) h
  | gapTimerExpiry =>
    change execGapTimerExpiry s = _ at h
    unfold execGapTimerExpiry at h
    refine waits_whenRunning ?_ h
    split <;> exact waits_of_same fun p => by cases p <;> rfl
  | portReset p =>
    change execPortReset p s = _ at h
    unfold execPortReset at h
    refine waits_whenRunning (waits_atPort ?_) h
    split
    · exact waits_refl s
    · intro q
      cases p <;> cases q
      · exact .inr rfl
      · exact .inl (.refl _)
      · exact .inl (.refl _)
      · exact .inr rfl
  | readResponse n =>
    change execReadResponse n s = _ at h
    unfold execReadResponse at h
    refine waits_whenRunning (waits_atPort ?_) h
    dsimp only
    split
    · next head =>
      split
      · exact waits_modPort (fun q => by cases q <;> rfl) (sameWaiting_deliver_head head)
      · exact waits_of_same fun q => by cases q <;> rfl
    · exact waits_of_same fun q => by cases q <;> rfl
  | responseSendStart =>
    change execResponseSendStart s = _ at h
    unfold execResponseSendStart at h
    refine waits_whenRunning ?_ h
    split <;> exact waits_of_same fun q => by cases q <;> rfl
  | responseTransmitted =>
    change execResponseTransmitted s = _ at h
    unfold execResponseTransmitted at h
    refine waits_whenRunning ?_ h
    split
    · next sending =>
      obtain ⟨r, head, -⟩ := transmit.sending _ _ sending
      exact waits_modPort (fun q => by cases q <;> rfl) (sameWaiting_deliver_head head)
    · exact waits_of_same fun q => by cases q <;> rfl
    · exact waits_refl s
  | receivedCharacter b =>
    change execReceivedCharacter b s = _ at h
    unfold execReceivedCharacter at h
    refine waits_whenRunning ?_ h
    dsimp only
    split
    · exact waits_refl s
    · split
      · split <;> exact waits_of_same fun q => by cases q <;> rfl
      · split
        · exact waits_frameEnded .u _
        · split
          · exact waits_receive .u _
          · exact waits_of_same fun q => by cases q <;> rfl

theorem waits_line (transmit : TransmitLaw s) (e : LineEvent) : WaitsOrReset s (s.line e) := by
  intro p
  cases p with
  | u =>
    rw [State.port_u, State.port_u, State.portU_line]
    exact .inl (.refl _)
  | s =>
    rw [State.port_s, State.port_s]
    obtain same | reset | ⟨q, arrives⟩ | ⟨k, bits, reading, delivers⟩ := s.portS_line e
    · exact .inl (by rw [same]; exact .refl _)
    · exact .inr reset
    · exact .inl (by rw [arrives]; exact sameWaiting_arrive _ _)
    · obtain ⟨r, head, -⟩ := transmit.reading _ _ _ reading
      exact .inl (by rw [delivers]; exact sameWaiting_deliver_head head)

/-! ## Every event -/

theorem longOk_vacant (lanes : ∀ i, t.lane i = none) (slots : ∀ p (k : SlotId), (t.port p).slots[k] = .free)
    (discard : ∀ p, (t.port p).discard = []) : LongOk t := by
  refine ⟨fun p k x f slot => ?_, fun i m marker => ?_, fun p i mem => ?_⟩
  · rw [slots] at slot
    cases slot
  · rw [markerAt_of_lane (lanes i)] at marker
    cases marker
  · rw [discard] at mem
    cases mem

theorem longOk_exec {e : Instr} (lanes : LaneLaw s) (transmit : TransmitLaw s) (law : LongOk s) (h : exec e s = .next t) : LongOk t := by
  cases eventClass e with
  | reset e x which =>
    obtain rfl | rfl := which <;>
      (obtain rfl := Host.Outcome.next.inj h
       refine longOk_vacant (fun i => ?_) (fun p k => ?_) fun p => by cases p <;> rfl
       · change (Vector.replicate 24 none)[i] = none
         simp
       · cases p <;> exact (by simp : (Vector.replicate 4 Slot.free)[k] = Slot.free))
  | calm event => exact longOk_of_kept law (calm_of_calmEvent event lanes h).longKept
  | port event => exact longOk_of_ports law (onPorts_of_portEvent event h).lanes (waits_of_portEvent transmit event h)
  | define => exact longOk_runEngine lanes law (fun _ _ _ => longAction_define) h
  | amend => exact longOk_runEngine lanes law (fun _ _ _ => longAction_amend) h
  | retire => exact longOk_runEngine lanes law (fun _ _ _ => longAction_retire) h
  | clearTrip => exact longOk_runEngine lanes law (fun _ _ lanes => longAction_clearTrip lanes) h
  | starts =>
    change execTransactionStart s = _ at h
    unfold execTransactionStart at h
    obtain rfl | ⟨-, rfl⟩ := whenRunning_cases h
    · exact law
    · exact longOk_of_kept law longKept_startTransaction
  | guardEnd =>
    change execGuardEnd s = _ at h
    unfold execGuardEnd at h
    obtain rfl | ⟨-, rfl⟩ := whenRunning_cases h
    · exact law
    · split
      · exact longOk_of_kept law ((longKept_link .idle s.frames).trans longKept_startTransaction)
      all_goals exact law
  | ends e which =>
    obtain rfl | ⟨x, b, r, -, view, rfl⟩ := ends_cases which h
    · exact law
    · exact longOk_endTransaction lanes law view

end

/-- Settles O59: a pending operation begins and ends together with its waiting request, and nothing else reaches either but a port reset. -/
theorem stepKeepsLongLaw : Obligations.StepKeepsLongLaw := by
  intro s t law h
  have long : LongOk s := longLaw_iff.1 law.long
  refine longLaw_iff.2 ?_
  have queue : ∀ pending lineIn, LongOk { s with pending := pending, lineIn := lineIn }
      ∧ TransmitLaw { s with pending := pending, lineIn := lineIn } := fun pending lineIn =>
    ⟨longOk_of_kept long (.rest (.refl s) (fun _ => rfl) (fun p => by cases p <;> rfl)),
      law.transmit.sending, law.transmit.reading, law.transmit.byte, law.transmit.framer, law.transmit.inBreak⟩
  obtain ⟨c, rest, -, event⟩ | ⟨-, -, rfl⟩ | ⟨e, rest, -, -, rfl⟩ := step_cases h
  · obtain ⟨long, transmit⟩ := queue rest s.lineIn
    exact longOk_exec (s := { s with pending := rest }) law.lanes transmit long event
  · exact longOk_of_kept long calm_tick.longKept
  · obtain ⟨long, transmit⟩ := queue s.pending rest
    exact longOk_of_ports long (onPorts_line e).lanes (waits_line transmit e)

end Sys2Proof.Pending
end

section
/-! PROOF. The step, the reset values, HALT and the tick of the time base (O1 to O6, O52). -/

namespace Sys2Proof.Steps

open Sys2Proof.Machine Sys2Proof.Safety

/-! ## The step (O1, O3, O4) -/

/-- Settles O1: the step's branch on a queue that is not empty. -/
theorem stepRunsFrontCommand : Obligations.StepRunsFrontCommand := by
  intro c rest s pending
  unfold step
  rw [pending]

/-- Settles O3: every arm of the dispatch gives a next state. -/
theorem everyEventCompletes : Obligations.EveryEventCompletes := by
  intro c s
  cases c <;> exact ⟨_, rfl⟩

theorem whenRunning_of_running {s : State} (running : s.held = false) (f : State → State) : whenRunning s f = .next (f s) := by
  unfold whenRunning
  rw [if_neg (by rw [running]; exact nofun)]

/-- Settles O4: every event but a reset acts in the running part alone, and of the pins the levels of CS_N and URX are noted. -/
theorem heldPartTakesNothing : Obligations.HeldPartTakesNothing := by
  intro s held
  refine ⟨fun c powerOn resetN release => ?_, fun pending coming => ?_, ?_⟩
  · cases c with
    | powerOn x => exact absurd rfl (powerOn x)
    | resetNAssertion x => exact absurd rfl (resetN x)
    | resetNRelease => exact absurd rfl release
    | _ =>
      cases s
      cases held
      rfl
  · unfold step State.quiet State.tick
    rw [pending, coming, if_pos held]
  · have noted : ∀ e, s.line e = s.heldLine e := fun e => if_pos held
    exact ⟨noted _, noted _, noted _, fun b => noted _, noted _⟩

/-! ## Resets (O5, O52) -/

/-- What both whole-part resets give, with ports that are as RESET_N leaves them. -/
theorem resetValues {s t : State} {x : Straps} {held : Bool} {strikes : PortId → Nat × Bool}
    (clear : t = { s.clear x with
      held := held
      portS := { Port.powerOn with strikes := (strikes .s).1, barred := (strikes .s).2 }
      portU := { Port.powerOn with strikes := (strikes .u).1, barred := (strikes .u).2 } }) :
    ResetValues s t x ∧ t.held = held ∧ ∀ p, (t.port p).strikes = (strikes p).1 ∧ (t.port p).barred = (strikes p).2 := by
  have port : ∀ p, t.port p = { Port.powerOn with strikes := (strikes p).1, barred := (strikes p).2 } := by
    intro p
    rw [clear]
    cases p <;> rfl
  refine ⟨?_, by rw [clear], fun p => by rw [port]; exact ⟨rfl, rfl⟩⟩
  constructor
  case lanes => intro i; simp [clear, State.lane, State.clear]
  case slots => intro p k; rw [port]; simp [Port.powerOn]
  case mask =>
    intro p k
    rw [port]
    change (BitVec.allOnes 10).getLsbD k = true
    revert k
    decide
  case outputs =>
    intro p
    rw [port]
    change (AttnSet.empty.count != 0) = false
    decide +kernel
  case order | dup | discard | lease | attn => intro p; rw [port]; rfl
  case idleSpi => intro idle; rw [clear]; exact congrArg Spi.abandon idle
  case openSpi => intro phase bits selected; rw [clear]; exact congrArg Spi.abandon selected
  case dltx => intro n; rw [clear]; rfl
  all_goals rw [clear]; rfl

/-- Settles O5: POWER_ON and RESET_N give every block its values, and the release ends the hold alone. -/
theorem resetsGiveTheirValues : Obligations.ResetsGiveTheirValues := by
  refine ⟨fun x s => ⟨_, rfl, ?_⟩, fun x s => ⟨_, rfl, ?_⟩, fun s => rfl⟩
  · exact resetValues (strikes := fun _ => (0, false)) rfl
  · refine resetValues (strikes := fun p => ((s.port p).strikes, (s.port p).barred)) ?_
    cases s
    rfl

/-- Settles O52: every lane is VACANT, both ports stand as at power-on, and the lines are quiet. -/
theorem resetKeepsEveryLaw : Obligations.ResetKeepsEveryLaw := by
  have lane : ∀ i, State.reset.lane i = none := fun i => by simp [State.lane, State.reset]
  have ports : ∀ p, PortLaws.PortLaw (State.reset.port p) := by
    intro p
    cases p <;> exact PortLaws.portLaw_powerOn
  have absent : ∀ {i l} {P : Prop}, State.reset.lane i = some l → P := fun record => by
    rw [lane] at record
    cases record
  obtain ⟨strikes, slots, lease, mask⟩ := PortLaws.portLaw_iff.2 ports
  have transmit : TransmitLaw State.reset := ⟨nofun, nofun, nofun, ⟨fun _ => rfl, fun _ => rfl⟩, nofun⟩
  have long : Pending.LongOk State.reset :=
    Pending.longOk_vacant lane (fun p k => by cases p <;> simp [State.port, State.reset, Port.reset]) fun p => by cases p <;> rfl
  have empty : queued State.reset = 0 := by
    unfold queued
    simp only [lane]
    rfl
  exact ⟨fun i l => absent, congrArg (64 + ·) empty, strikes, slots, lease, mask,
    fun i j l m => absent, fun j l => absent, transmit, Pending.frameLaw_iff.2 (Pending.framesLaw_vacant lane rfl rfl),
    Pending.longLaw_iff.2 long⟩

/-! ## HALT (O6) -/

/-- Every lane after a HALT assertion. -/
theorem lane_foldl_haltOne (s : State) (i : LaneId) : (allLanes.foldl State.haltOne s).lane i
    = (s.lane i).map fun l => match l.mode with
      | .active _ _ => l.enterStopping .halt
      | .defining _ => l
      | .standby => l
      | .stopping _ => l
      | .tripped _ _ _ _ => l :=
  foldl_allLanes_lane (g := fun _ o => o.map fun l => match l.mode with
      | .active _ _ => l.enterStopping .halt
      | .defining _ => l
      | .standby => l
      | .stopping _ => l
      | .tripped _ _ _ _ => l) lane_haltOne i s

/-- A HALT assertion writes the lanes and the pool's count alone. -/
theorem foldl_haltOne_eq (js : List LaneId) (s : State) :
    ∃ ls free, js.foldl State.haltOne s = { s with lanes := ls, poolFree := free } := by
  induction js generalizing s with
  | nil => exact ⟨_, _, rfl⟩
  | cons j js ih =>
    obtain ⟨ls, free, e⟩ := ih (s.haltOne j)
    refine ⟨ls, free, e.trans ?_⟩
    unfold State.haltOne
    split
    · rfl
    · split <;> rfl

theorem poolLaw_foldl_haltOne {s : State} (law : PoolLaw s) : PoolLaw (allLanes.foldl State.haltOne s) := by
  refine foldl_keeps PoolLaw (fun t j law => ?_) allLanes s law
  unfold State.haltOne
  split
  · exact law
  · split
    · exact poolLaw_putLane law (Nat.zero_le _)
    all_goals exact law

/-- Settles O6: the fold over the lanes writes the ACTIVE ones alone, and the release writes none. -/
theorem haltStopsActiveLanes : Obligations.HaltStopsActiveLanes := by
  refine ⟨fun s running => ?_, fun s running =>
    ⟨{ s with haltLevel := false, haltPin := false, haltRun := 0 }, ?_, ?_⟩⟩
  · refine ⟨allLanes.foldl State.haltOne { s with haltLevel := true, haltPin := true, haltRun := 0 }, ?_, ?_⟩
    · change execHaltAssertion s = _
      unfold execHaltAssertion
      rw [whenRunning_of_running running]
    have asserted : PoolLaw s → PoolLaw { s with haltLevel := true, haltPin := true, haltRun := 0 } :=
      poolLaw_congr (s := s) (fun _ => rfl) rfl
    have lanes := lane_foldl_haltOne { s with haltLevel := true, haltPin := true, haltRun := 0 }
    have pool := fun law => poolLaw_foldl_haltOne (asserted law)
    obtain ⟨ls, free, e⟩ := foldl_haltOne_eq allLanes { s with haltLevel := true, haltPin := true, haltRun := 0 }
    rw [e] at lanes pool ⊢
    refine ⟨rfl, rfl, rfl, fun i => (lanes i).trans ?_, pool, ⟨rfl, rfl⟩, ⟨rfl, rfl, rfl⟩,
      rfl, rfl, rfl, rfl, rfl, rfl, rfl, rfl, rfl, rfl, rfl, rfl⟩
    change (s.lane i).map _ = _
    refine Option.map_congr fun l _ => ?_
    cases l.mode <;> rfl
  · change execHaltRelease s = _
    unfold execHaltRelease
    rw [whenRunning_of_running running]
  · exact ⟨rfl, rfl, rfl, ⟨fun _ => rfl, rfl⟩, ⟨rfl, rfl⟩, ⟨rfl, rfl, rfl⟩, rfl, rfl, rfl, rfl, rfl, rfl, rfl, rfl, rfl, rfl, rfl, rfl⟩

/-! ## The tick (O2) -/

theorem insertByRank_perm (rank : Instr → Nat) (c : Instr) (cs : List Instr) : (insertByRank rank c cs).Perm (c :: cs) := by
  induction cs with
  | nil => exact .refl _
  | cons d cs ih =>
    unfold insertByRank
    split
    · exact .refl _
    · exact (ih.cons d).trans (List.Perm.swap c d cs)

theorem orderByRank_perm (rank : Instr → Nat) (cs : List Instr) : (orderByRank rank cs).Perm cs := by
  induction cs with
  | nil => exact .refl _
  | cons c cs ih => exact (insertByRank_perm rank c _).trans (ih.cons c)

theorem timerDue_iff {t : Option Nat} : timerDue t = true ↔ ∃ n, t = some n ∧ n ≤ 1 := by
  cases t <;> simp [timerDue]

theorem mem_ite_singleton {b : Bool} {c d : Instr} : c ∈ (if b then [d] else []) ↔ b = true ∧ c = d := by
  cases b <;> simp

theorem nodup_ite_singleton (b : Bool) (c : Instr) : (if b then [c] else []).Nodup := by
  cases b
  · exact List.nodup_nil
  · exact List.nodup_singleton c

/-- The update of a lane is due. -/
theorem laneDue_iff {s : State} {i : LaneId} : timerDue (laneTimer (s.lane i)) = true ↔ ∃ l n, s.lane i = some l ∧ l.timer = some n ∧ n ≤ 1 := by
  rw [timerDue_iff]
  unfold laneTimer
  cases s.lane i <;> simp

/-- The events of a tick. -/
theorem mem_tickEvents {s : State} {c : Instr} : c ∈ s.tickEvents ↔
    (s.haltTurns = true ∧ c = if s.haltSample then .haltAssertion else .haltRelease)
      ∨ (∃ i, c = .laneUpdate i ∧ timerDue (laneTimer (s.lane i)) = true)
      ∨ (timerDue s.portS.lease.timer = true ∧ c = .leaseExpiry .s) ∨ (timerDue s.portU.lease.timer = true ∧ c = .leaseExpiry .u)
      ∨ (timerDue s.gapTimer = true ∧ c = .gapTimerExpiry) := by
  unfold State.tickEvents
  simp only [List.mem_append, mem_ite_singleton, List.mem_map, List.mem_filter, mem_allLanes, true_and, or_assoc, eq_comm (a := Instr.laneUpdate _),
    and_comm (b := c = Instr.laneUpdate _)]

theorem nodup_tickEvents (s : State) : s.tickEvents.Nodup := by
  unfold State.tickEvents
  have updates : ((allLanes.filter fun i => timerDue (laneTimer (s.lane i))).map Instr.laneUpdate).Nodup :=
    (allLanes_nodup.filter _).map fun i j e => by cases e; rfl
  have halt : ∀ i, (if s.haltSample then Instr.haltAssertion else .haltRelease) ≠ .laneUpdate i := fun i => by split <;> exact nofun
  have halt' : ∀ p, (if s.haltSample then Instr.haltAssertion else .haltRelease) ≠ .leaseExpiry p := fun i => by split <;> exact nofun
  have halt'' : (if s.haltSample then Instr.haltAssertion else .haltRelease) ≠ .gapTimerExpiry := by split <;> exact nofun
  simp only [List.nodup_append, nodup_ite_singleton, updates, true_and, List.mem_append, mem_ite_singleton, List.mem_map]
  refine ⟨⟨⟨?_, ?_⟩, ?_⟩, ?_⟩
  · rintro _ ⟨-, rfl⟩ _ ⟨i, -, rfl⟩
    exact halt i
  · rintro _ (⟨-, rfl⟩ | ⟨i, -, rfl⟩) _ ⟨-, rfl⟩
    · exact halt' _
    · exact nofun
  · rintro _ ((⟨-, rfl⟩ | ⟨i, -, rfl⟩) | ⟨-, rfl⟩) _ ⟨-, rfl⟩
    · exact halt' _
    · exact nofun
    · exact nofun
  · rintro _ (((⟨-, rfl⟩ | ⟨i, -, rfl⟩) | ⟨-, rfl⟩) | ⟨-, rfl⟩) _ ⟨-, rfl⟩
    · exact halt''
    all_goals exact nofun

/-- The change of the filtered HALT level, when it falls on the tick (R99). -/
theorem halt_due_iff {s : State} {c : Instr} : (s.haltTurns = true ∧ c = if s.haltSample then .haltAssertion else .haltRelease) ↔
    (c = .haltAssertion ∧ s.haltIn.headD s.haltPin = true ∧ s.haltLevel = false ∧ 2 ≤ s.haltRun)
      ∨ (c = .haltRelease ∧ s.haltIn.headD s.haltPin = false ∧ s.haltLevel = true ∧ 2 ≤ s.haltRun) := by
  unfold State.haltTurns State.haltSample
  cases s.haltIn.headD s.haltPin <;> cases s.haltLevel <;> simp [and_comm]

/-- Settles O2: a tick samples HALT_N, counts every timer, and queues the events that are due in an order of their ranks. -/
theorem emptyQueueTicks : Obligations.EmptyQueueTicks := by
  refine ⟨fun s pending coming running => ⟨s.tick, ?_, ?_⟩, fun s e rest pending coming => ?_⟩
  · unfold step State.quiet
    rw [pending, coming]
  · have tick : s.tick = { s.sampleHalt with
        ticks := s.ticks + 1
        lanes := ⟨(s.lanes.toList.map tickLane).toArray, by simp⟩
        portS := s.portS.tick, portU := s.portU.tick, gapTimer := tickTimer s.gapTimer
        pending := s.pending ++ orderByRank (Config.tickRank s.ticks) s.tickEvents } := if_neg (by rw [running]; exact nofun)
    have queue : s.tick.pending = orderByRank (Config.tickRank s.ticks) s.tickEvents := by
      rw [tick]
      change s.pending ++ _ = _
      rw [pending, List.nil_append]
    have due : ∀ c, c ∈ s.tick.pending ↔ c ∈ s.tickEvents := fun c => by rw [queue, (orderByRank_perm _ _).mem_iff]
    refine ⟨?_, fun c => ?_, fun i => ?_, fun p => ?_, ?_⟩
    · rw [queue, (orderByRank_perm _ _).nodup_iff]
      exact nodup_tickEvents s
    · rw [due, mem_tickEvents, ← or_assoc (a := c = .haltAssertion ∧ _), ← halt_due_iff]
      refine or_congr Iff.rfl (or_congr (exists_congr fun i => ?_) ?_)
      · rw [laneDue_iff]
        simp only [exists_and_left]
      · rw [← or_assoc]
        refine or_congr ?_ ?_
        · simp only [timerDue_iff]
          constructor
          · rintro (⟨⟨n, timer, le⟩, rfl⟩ | ⟨⟨n, timer, le⟩, rfl⟩)
            · exact ⟨.s, n, rfl, timer, le⟩
            · exact ⟨.u, n, rfl, timer, le⟩
          · rintro ⟨p, n, rfl, timer, le⟩
            cases p
            · exact .inl ⟨⟨n, timer, le⟩, rfl⟩
            · exact .inr ⟨⟨n, timer, le⟩, rfl⟩
        · rw [timerDue_iff, and_comm, exists_and_left]
    · rw [Records.lane_tick s running]
      cases s.lane i <;> rfl
    · rw [tick]
      cases p <;> rfl
    · have run : s.tick.haltRun = if s.haltSample = s.haltLevel ∨ 2 ≤ s.haltRun then 0 else s.haltRun + 1 := by rw [tick]; rfl
      refine ⟨(congrArg State.gapTimer tick :), (congrArg State.ticks tick :), (congrArg State.held tick).trans running, (congrArg State.poolFree tick :),
        ⟨(congrArg State.link tick :), (congrArg State.frames tick :)⟩, (congrArg State.lastServed tick :), (congrArg State.framer tick :),
        (congrArg State.urxLow tick :), (congrArg State.uTx tick :), (congrArg State.spi tick :), (congrArg State.misoOut tick :),
        (congrArg State.lineIn tick).trans coming, (congrArg State.straps tick :), (congrArg State.haltLevel tick :), (congrArg State.haltPin tick :),
        (congrArg State.haltIn tick :), fun same => ?_, fun turns => ?_⟩
      · rw [run, if_pos (.inl same)]
      · rw [run]
        have turns : ¬ s.haltSample = s.haltLevel := turns
        by_cases third : s.haltRun < 2
        · rw [if_pos third, if_neg (by simp [turns, third])]
        · rw [if_neg third, if_pos (.inr (Nat.le_of_not_lt third))]
  · unfold step State.quiet
    rw [pending, coming]

end Sys2Proof.Steps
end

section
/-! PROOF. A good frame at a port: dropped, an OVERRUN, or a slot (O7 to O9). -/

namespace Sys2Proof.Frames

open Sys2Proof.Machine Sys2Proof.Safety Sys2Proof.LeasePeriods

/-! ## The duplicate store and the slots (R148, R150) -/

theorem duplicateOf_of_names {p : Port} {q : Request} {d : DupStore} (store : p.dup = some d) (seq : d.seq = q.seq)
    (crc : d.crc = q.crc) : p.duplicateOf q = some d.copy := by
  unfold Port.duplicateOf
  rw [store]
  exact if_pos ⟨seq, crc⟩

theorem duplicateOf_of_not_named {p : Port} {q : Request} (other : ∀ d, p.dup = some d → ¬ (d.seq = q.seq ∧ d.crc = q.crc)) :
    p.duplicateOf q = none := by
  unfold Port.duplicateOf
  split
  · next d store => exact if_neg (other d store)
  · rfl

/-- The store says nothing but the copy it holds of a frame it names. -/
theorem duplicateOf_eq_some {p : Port} {q : Request} {o : Option Copy} (h : p.duplicateOf q = some o) :
    ∃ d, p.dup = some d ∧ d.seq = q.seq ∧ d.crc = q.crc ∧ d.copy = o := by
  unfold Port.duplicateOf at h
  split at h
  · next d store =>
    split at h
    · next names => exact ⟨d, store, names.1, names.2, Option.some.inj h⟩
    · cases h
  · cases h

theorem freeSlot_of_full {p : Port} (full : ∀ k : SlotId, p.slots[k].isFree = false) : p.freeSlot = none :=
  List.find?_eq_none.2 fun k _ => by rw [full k]; exact nofun

/-- The lowest FREE slot. -/
theorem freeSlot_of_lowest {p : Port} {k : SlotId} (free : p.slots[k].isFree = true)
    (lower : ∀ j : SlotId, j < k → p.slots[j].isFree = false) : p.freeSlot = some k := by
  have slots : allSlots = List.finRange 4 := by decide
  unfold Port.freeSlot
  rw [slots]
  refine List.find?_eq_some_iff_getElem.2 ⟨free, k.val, by simp, by simp, fun j lt => ?_⟩
  rw [List.getElem_finRange]
  exact Bool.not_eq_true' _ ▸ lower ⟨j, by omega⟩ lt

/-! ## What an arriving frame does to its port -/

theorem arrive_unanswered {p : Port} {q : Request} (named : p.duplicateOf q = some none) : p.arrive q = p := by
  unfold Port.arrive
  rw [named]

theorem arrive_full {p : Port} {q : Request} (answered : p.duplicateOf q ≠ some none) (full : p.freeSlot = none) :
    p.arrive q = p.takeOverrun := by
  unfold Port.arrive
  rw [full]
  split
  · next h => exact absurd h answered
  · rfl
  · rfl

theorem arrive_copy {p : Port} {q : Request} {c : Copy} {k : SlotId} (named : p.duplicateOf q = some (some c))
    (free : p.freeSlot = some k) :
    p.arrive q = p.occupy k fun lapsed => .answered
      { seq := q.seq, code := q.code, result := c.result, lapsed := lapsed, duplicate := true, payload := c.payload } := by
  unfold Port.arrive
  rw [named, free]

theorem arrive_new {p : Port} {q : Request} {k : SlotId} (other : p.duplicateOf q = none) (free : p.freeSlot = some k) :
    p.arrive q = { p.occupy k (.queued q) with dup := some { seq := q.seq, crc := q.crc, slot := k, copy := none } } := by
  unfold Port.arrive
  rw [other, free]

/-- The slots of a port whose slot k has been taken. -/
theorem occupy_slots (p : Port) (k : SlotId) (x : Bool → Slot) :
    (p.occupy k x).slots[k] = x p.lease.lapsed ∧ ∀ j : SlotId, j ≠ k → (p.occupy k x).slots[j] = p.slots[j] :=
  ⟨(p.slots_setSlot k k _).trans (if_pos rfl), fun j ne => (p.slots_setSlot k j _).trans (if_neg ne)⟩

theorem takeOverrun_butSet (p : Port) :
    PortButSet p p.takeOverrun (if p.mask.getLsbD 9 then { p.attn with overrun := true } else p.attn) := by
  cases enabled : p.mask.getLsbD 9 with
  | true =>
    rw [AttentionSets.takeOverrun_of_enabled enabled]
    exact AttentionSets.portButSet_attn p _
  | false =>
    rw [AttentionSets.takeOverrun_of_masked enabled]
    exact AttentionSets.portButSet_attn p _

/-! ## What an arriving frame does to the part -/

/-- Of the part, the bytes of a frame reach the receiver of their port. -/
theorem frameTaken_frameEnded (s : State) (p : PortId) (n : Nat) : FrameTaken s (s.frameEnded p n) p n := by
  cases p <;> constructor <;> rfl

theorem same_frameEnded (s : State) (p : PortId) (n : Nat) :
    SamePorts s (s.frameEnded p n) ∧ SameTable s (s.frameEnded p n) ∧ SameLink s (s.frameEnded p n) := by
  cases p <;> exact ⟨⟨rfl, rfl, rfl⟩, ⟨fun _ => rfl, rfl⟩, ⟨rfl, rfl⟩⟩

/-- A good frame arrives at its port, and nothing else is reached but the receiver. -/
theorem goodFrame_arrives {s : State} {p : PortId} {bytes : List Byte} {q : Request} (running : s.held = false)
    (isOpen : PortOpen s p) (parsed : parseFrame bytes = some q) :
    ∃ t, exec (.goodFrame p bytes) s = .next t ∧ t.port p = (s.port p).arrive q ∧ t.port (otherPort p) = s.port (otherPort p)
      ∧ SameTable s t ∧ SameLink s t ∧ FrameTaken s t p bytes.length ∧ t.lastServed = s.lastServed := by
  have receive : s.receive p bytes = (s.frameEnded p bytes.length).modPort p (·.arrive q) := by
    unfold State.receive
    rw [parsed]
  refine ⟨_, exec_goodFrame_of_open running isOpen bytes, ?_⟩
  rw [receive]
  cases p <;> exact ⟨rfl, rfl, ⟨fun _ => rfl, rfl⟩, ⟨rfl, rfl⟩, by constructor <;> rfl, rfl⟩

/-- A port and the other one are all there are. -/
theorem samePorts_of_port {s t : State} {p : PortId} (own : t.port p = s.port p) (other : t.port (otherPort p) = s.port (otherPort p))
    (served : t.lastServed = s.lastServed) : SamePorts s t := by
  cases p
  · exact ⟨own, other, served⟩
  · exact ⟨other, own, served⟩

/-! ## The statements -/

/-- Settles O7: by the branches of the arrival that take no slot. -/
theorem framesThatTakeNoSlot : Obligations.FramesThatTakeNoSlot := by
  refine ⟨fun s p bytes q d running isOpen parsed store seq crc unanswered => ?_, fun s p bytes q running isOpen parsed full answered => ?_⟩
  · obtain ⟨t, next, own, other, table, link, taken, served⟩ := goodFrame_arrives running isOpen parsed
    have named := duplicateOf_of_names store seq crc
    rw [unanswered] at named
    rw [arrive_unanswered named] at own
    exact ⟨t, next, taken, samePorts_of_port own other served, table, link⟩
  · obtain ⟨t, next, own, other, table, link, taken, -⟩ := goodFrame_arrives running isOpen parsed
    have named : (s.port p).duplicateOf q ≠ some none := fun h => by
      obtain ⟨d, store, seq, crc, none⟩ := duplicateOf_eq_some h
      exact answered d store seq crc none
    rw [arrive_full named (freeSlot_of_full full)] at own
    exact ⟨t, next, own ▸ takeOverrun_butSet _, other, table, link, taken⟩

/-- Settles O8: the branch of the arrival that finds a copy. -/
theorem answeredDuplicateTakesCopy : Obligations.AnsweredDuplicateTakesCopy := by
  intro s p bytes q d c k running isOpen parsed store seq crc copy free lower
  obtain ⟨t, next, own, other, table, link, taken, -⟩ := goodFrame_arrives running isOpen parsed
  have named := duplicateOf_of_names store seq crc
  rw [copy] at named
  rw [arrive_copy named (freeSlot_of_lowest free lower)] at own
  obtain ⟨slot, slots⟩ := occupy_slots (s.port p) k fun lapsed => .answered
    { seq := q.seq, code := q.code, result := c.result, lapsed := lapsed, duplicate := true, payload := c.payload }
  refine ⟨t, next, ?_⟩
  rw [own]
  exact ⟨slot, slots, rfl, rfl, rfl, rfl, rfl, rfl, rfl, rfl, other, table, link, taken⟩

/-- Settles O9: the branch of the arrival that finds no duplicate. -/
theorem goodFrameTakesSlot : Obligations.GoodFrameTakesSlot := by
  refine ⟨fun s p bytes q k running isOpen parsed unnamed free lower => ?_, fun x => by cases x <;> simp [Slot.isFree]⟩
  obtain ⟨t, next, own, other, table, link, taken, -⟩ := goodFrame_arrives running isOpen parsed
  rw [arrive_new (duplicateOf_of_not_named unnamed) (freeSlot_of_lowest free lower)] at own
  obtain ⟨slot, slots⟩ := occupy_slots (s.port p) k (.queued q)
  refine ⟨t, next, ?_⟩
  rw [own]
  exact ⟨slot, slots, rfl, rfl, rfl, rfl, rfl, rfl, rfl, rfl, other, table, link, taken⟩

end Sys2Proof.Frames
end

section
/-! PROOF. Frames byte by byte: what the bytes of a frame parse to, a transaction of port S pulse by pulse, characters at port U (O10, O11). -/

namespace Sys2Proof.PortLines

open Sys2Proof.Machine Sys2Proof.Safety Sys2Proof.LeasePeriods Sys2Proof.Steps

/-! ## The bytes of a frame (R140, R143) -/

theorem byteAt_append {bs : List Byte} {k : Nat} (lt : k < bs.length) (more : List Byte) : byteAt (bs ++ more) k = byteAt bs k := by
  unfold byteAt
  rw [List.getD_append _ _ _ _ lt]

theorem u16At_append {bs : List Byte} {k : Nat} (lt : k + 1 < bs.length) (more : List Byte) : u16At (bs ++ more) k = u16At bs k := by
  unfold u16At
  rw [byteAt_append lt, byteAt_append (Nat.lt_of_succ_lt lt)]

theorem parseFrame_of_long {bs : List Byte} (long : 32 < (byteAt bs 5).toNat) : parseFrame bs = none := by
  refine if_neg ?_
  simp [Nat.not_le_of_lt long]

theorem parseFrame_of_short {bs : List Byte} (short : bs.length < 8 + (byteAt bs 5).toNat) : parseFrame bs = none := by
  refine if_neg ?_
  simp [Nat.not_le_of_lt short]

/-- What a frame that parses says of its bytes. -/
theorem length_of_parseFrame {bs : List Byte} {q : Request} (h : parseFrame bs = some q) :
    (byteAt bs 5).toNat ≤ 32 ∧ 8 + (byteAt bs 5).toNat ≤ bs.length ∧ q.payload = (bs.drop 6).take (byteAt bs 5).toNat := by
  unfold parseFrame at h
  dsimp only at h
  split at h
  · next good =>
    simp only [Bool.and_eq_true, decide_eq_true_eq] at good
    cases h
    exact ⟨good.1.1, good.1.2, rfl⟩
  · cases h

/-- Bytes after a complete frame are ignored (R143). -/
theorem parseFrame_append {bs : List Byte} (whole : 8 + (byteAt bs 5).toNat ≤ bs.length) (more : List Byte) :
    parseFrame (bs ++ more) = parseFrame bs := by
  have at5 := byteAt_append (bs := bs) (k := 5) (by omega) more
  have whole' : 8 + (byteAt bs 5).toNat ≤ (bs ++ more).length := by
    rw [List.length_append]
    omega
  have body : (bs ++ more).take (6 + (byteAt bs 5).toNat) = bs.take (6 + (byteAt bs 5).toNat) :=
    List.take_append_of_le_length (by omega)
  have payload : ((bs ++ more).drop 6).take (byteAt bs 5).toNat = (bs.drop 6).take (byteAt bs 5).toNat := by
    rw [List.drop_append_of_le_length (by omega), List.take_append_of_le_length (by rw [List.length_drop]; omega)]
  unfold parseFrame
  dsimp only
  rw [at5, body, payload, u16At_append (by omega), u16At_append (by omega), byteAt_append (by omega), byteAt_append (by omega),
    byteAt_append (by omega), decide_eq_true whole, decide_eq_true whole']

/-- More bytes of the frame are to come: the length byte, the payload or the CRC. -/
def FrameOpen (got : List Byte) : Prop :=
  got.length < 6 ∨ (byteAt got 5).toNat ≤ 32 ∧ got.length < 8 + (byteAt got 5).toNat

theorem frameOpen_nil : FrameOpen [] := .inl (by decide)

theorem frameTooLong_iff {got : List Byte} : frameTooLong got = true ↔ got.length = 6 ∧ 32 < (byteAt got 5).toNat := by
  simp [frameTooLong]

theorem frameComplete_iff {got : List Byte} : frameComplete got = true ↔ 6 ≤ got.length ∧ got.length = 8 + (byteAt got 5).toNat := by
  simp [frameComplete]

theorem parseFrame_of_open {got : List Byte} (more : FrameOpen got) : parseFrame got = none := by
  refine parseFrame_of_short ?_
  obtain short | ⟨-, short⟩ := more
  · omega
  · exact short

/-- A byte joins an open frame: the length byte is above 32, the frame is complete, or it stays open. -/
theorem frameOpen_concat {got : List Byte} (more : FrameOpen got) (b : Byte) :
    (frameTooLong (got ++ [b]) = true ∧ 32 < (byteAt (got ++ [b]) 5).toNat)
      ∨ (frameTooLong (got ++ [b]) = false ∧ frameComplete (got ++ [b]) = true ∧ (byteAt (got ++ [b]) 5).toNat ≤ 32)
      ∨ (frameTooLong (got ++ [b]) = false ∧ frameComplete (got ++ [b]) = false ∧ FrameOpen (got ++ [b])) := by
  have length : (got ++ [b]).length = got.length + 1 := List.length_append
  cases tooLong : frameTooLong (got ++ [b]) with
  | true => exact .inl ⟨rfl, (frameTooLong_iff.1 tooLong).2⟩
  | false =>
    have fits : ¬ ((got ++ [b]).length = 6 ∧ 32 < (byteAt (got ++ [b]) 5).toNat) := fun h => by
      rw [frameTooLong_iff.2 h] at tooLong
      cases tooLong
    have old : 6 ≤ got.length → byteAt (got ++ [b]) 5 = byteAt got 5 := fun le => byteAt_append le _
    unfold FrameOpen at more ⊢
    cases complete : frameComplete (got ++ [b]) with
    | true =>
      obtain ⟨-, whole⟩ := frameComplete_iff.1 complete
      refine .inr (.inl ⟨rfl, rfl, ?_⟩)
      obtain short | ⟨low, -⟩ := more
      · omega
      · by_cases le : 6 ≤ got.length
        · rw [old le]
          exact low
        · omega
    | false =>
      have partial' : ¬ (6 ≤ (got ++ [b]).length ∧ (got ++ [b]).length = 8 + (byteAt (got ++ [b]) 5).toNat) := fun h => by
        rw [frameComplete_iff.2 h] at complete
        cases complete
      refine .inr (.inr ⟨rfl, rfl, ?_⟩)
      by_cases le : 6 ≤ got.length
      · rw [old le] at fits partial' ⊢
        omega
      · omega

/-! ## A transaction of port S (R142 to R144, R193) -/

/-- The part in a transaction of this phase, with no bit of the next byte received and these bytes shifted out. -/
def selected (s : State) (phase : SpiPhase) (m : List Byte) : State := { s with misoOut := m, spi := .selected phase [] }

/-- The bytes of a transaction are received one after the other. -/
theorem lines_selected_cons {s : State} (running : s.held = false) (phase : SpiPhase) (m : List Byte) (b : Byte) (bs : List Byte)
    (es : List LineEvent) : lines (selected s phase m) ((b :: bs).flatMap pulses ++ es)
      = lines ((selected s phase m).spiByte phase b) (bs.flatMap pulses ++ es) := by
  rw [List.flatMap_cons, List.append_assoc, lines_append, lines_pulses (s := selected s phase m) running rfl]

theorem line_csAssert {s : State} (running : s.held = false) (idle : s.spi = .deselected) :
    s.line .csAssert = { s with spi := .selected .command [], misoOut := [] } := by
  simp [State.line, running, State.runningLine, idle]

theorem line_csDeassert {s : State} (running : s.held = false) : s.line .csDeassert = s.spiEnd := by
  simp [State.line, running, State.runningLine]

theorem fillers_succ (n : Nat) : fillers (n + 1) = filler :: fillers n := List.replicate_succ

theorem append_fillers_succ (m : List Byte) (n : Nat) : m ++ fillers (n + 1) = m ++ [filler] ++ fillers n := by
  rw [fillers_succ, List.append_assoc]
  rfl

/-- CS_N is deasserted after the last byte. -/
theorem lines_selected_nil {s : State} (running : s.held = false) (phase : SpiPhase) (m : List Byte) :
    lines (selected s phase m) (([] : List Byte).flatMap pulses ++ [.csDeassert]) = (selected s phase m).spiEnd :=
  line_csDeassert (s := selected s phase m) running

theorem deselected_eq {s : State} (idle : s.spi = .deselected) (m : List Byte) :
    { s with misoOut := m, spi := .deselected } = { s with misoOut := m } := by
  rw [← idle]

/-- The bytes of a transaction that are ignored shift out filler. -/
theorem lines_ignored {s : State} (running : s.held = false) (idle : s.spi = .deselected) (bs m : List Byte) :
    lines (selected s .ignoring m) (bs.flatMap pulses ++ [.csDeassert]) = { s with misoOut := m ++ fillers bs.length } := by
  induction bs generalizing m with
  | nil =>
    rw [lines_selected_nil running, show m ++ fillers ([] : List Byte).length = m from List.append_nil m]
    exact deselected_eq idle m
  | cons b bs ih =>
    rw [lines_selected_cons running, List.length_cons, append_fillers_succ, ← ih]
    rfl

/-- What the first byte of a transaction decides. -/
theorem transaction_cons {s : State} (running : s.held = false) (idle : s.spi = .deselected) (b : Byte) (rest : List Byte) :
    transaction s (b :: rest) = lines ((selected s .command []).spiByte .command b) (rest.flatMap pulses ++ [.csDeassert]) := by
  unfold transaction
  rw [List.cons_append, lines_cons, line_csAssert running idle]
  exact lines_selected_cons running .command [] b rest _

/-- Another command byte (R142). -/
theorem transaction_other {s : State} (running : s.held = false) (idle : s.spi = .deselected) {b : Byte} (other : spiCommand b = .other)
    (rest : List Byte) : transaction s (b :: rest) = { s with misoOut := fillers (1 + rest.length) } := by
  have byte : (selected s .command []).spiByte .command b = selected s .ignoring [filler] := by
    unfold State.spiByte
    dsimp only
    rw [other]
    rfl
  rw [transaction_cons running idle, byte, lines_ignored running idle, Nat.add_comm, fillers_succ]
  rfl

/-- The frame that port S has received arrives. -/
def arrived (s : State) (bytes : List Byte) : State :=
  match parseFrame bytes with
  | some q => s.modPort .s (·.arrive q)
  | none => s

theorem arrived_of_none {s : State} {bytes : List Byte} (none : parseFrame bytes = none) : arrived s bytes = s := by
  unfold arrived
  rw [none]

/-- A byte that joins a frame written to port S. -/
theorem spiByte_writing (s : State) (m got : List Byte) (b : Byte) :
    (selected s (.writing got) m).spiByte (.writing got) b = if frameTooLong (got ++ [b]) then selected s .ignoring (m ++ [filler])
      else if frameComplete (got ++ [b]) then selected (arrived s (got ++ [b])) .ignoring (m ++ [filler])
      else selected s (.writing (got ++ [b])) (m ++ [filler]) := by
  unfold State.spiByte arrived
  dsimp only
  cases parseFrame (got ++ [b]) <;> rfl

theorem arrived_rest (s : State) (bytes : List Byte) : (arrived s bytes).held = s.held ∧ (arrived s bytes).spi = s.spi := by
  unfold arrived
  cases parseFrame bytes <;> exact ⟨rfl, rfl⟩

/-- A frame that is being written to port S: the rest of the transaction makes it the arrival of the frame that its bytes hold. -/
theorem lines_writing {s : State} (running : s.held = false) (idle : s.spi = .deselected) (bs : List Byte) {got : List Byte}
    (more : FrameOpen got) (m : List Byte) :
    lines (selected s (.writing got) m) (bs.flatMap pulses ++ [.csDeassert]) = { arrived s (got ++ bs) with misoOut := m ++ fillers bs.length } := by
  induction bs generalizing got m with
  | nil =>
    rw [lines_selected_nil running, List.append_nil, arrived_of_none (parseFrame_of_open more),
      show m ++ fillers ([] : List Byte).length = m from List.append_nil m]
    exact deselected_eq idle m
  | cons b bs ih =>
    rw [lines_selected_cons running, spiByte_writing, List.length_cons, append_fillers_succ,
      show got ++ b :: bs = got ++ [b] ++ bs by simp]
    obtain ⟨tooLong, high⟩ | ⟨fits, complete, low⟩ | ⟨fits, part, more⟩ := frameOpen_concat more b
    · have length := (frameTooLong_iff.1 tooLong).1
      rw [if_pos tooLong, arrived_of_none (parseFrame_of_long (by rw [byteAt_append (by omega)]; exact high))]
      exact lines_ignored running idle bs _
    · obtain ⟨-, whole⟩ := frameComplete_iff.1 complete
      have parsed : arrived s (got ++ [b] ++ bs) = arrived s (got ++ [b]) := by
        unfold arrived
        rw [parseFrame_append (Nat.le_of_eq whole.symm) bs]
      obtain ⟨held, spi⟩ := arrived_rest s (got ++ [b])
      rw [if_neg (by rw [fits]; exact nofun), if_pos complete, parsed]
      exact lines_ignored (held.trans running) (spi.trans idle) bs _
    · rw [if_neg (by rw [fits]; exact nofun), if_neg (by rw [part]; exact nofun)]
      exact ih more _

/-- A whole write-request transaction (R143). -/
theorem transaction_write {s : State} (running : s.held = false) (idle : s.spi = .deselected) (bytes : List Byte) :
    transaction s (0x3C#8 :: bytes) = s.receive .s bytes := by
  have byte : (selected s .command []).spiByte .command 0x3C#8 = selected s (.writing []) [filler] := rfl
  have out : [filler] ++ fillers bytes.length = fillers (1 + bytes.length) := by
    rw [Nat.add_comm, fillers_succ]
    rfl
  rw [transaction_cons running idle, byte, lines_writing running idle bytes frameOpen_nil, out, List.nil_append]
  unfold arrived State.receive
  cases parseFrame bytes <;> rfl

/-- Pulses of an ignored transaction: filler for every byte that is whole. -/
theorem lines_sck_ignoring (bits : List Bool) {s : State} (running : s.held = false) {got : List Bool} (lt : got.length < 8)
    (m : List Byte) : ∃ left, lines { s with misoOut := m, spi := .selected .ignoring got } (bits.map .sck)
      = { s with misoOut := m ++ fillers ((got.length + bits.length) / 8), spi := .selected .ignoring left } := by
  induction bits generalizing got m with
  | nil =>
    refine ⟨got, ?_⟩
    rw [List.length_nil, Nat.add_zero, Nat.div_eq_of_lt lt]
    simp [lines, fillers]
  | cons x bits ih =>
    rw [List.map_cons, lines_cons]
    by_cases seven : got.length = 7
    · obtain ⟨left, e⟩ := ih (got := []) (by decide) (m ++ [filler])
      refine ⟨left, ?_⟩
      rw [State.line_sck_eighth (s := { s with misoOut := m, spi := .selected .ignoring got }) running rfl seven]
      have one : (got.length + (x :: bits).length) / 8 = (([] : List Bool).length + bits.length) / 8 + 1 := by
        rw [seven, List.length_cons, List.length_nil]
        omega
      rw [one, append_fillers_succ]
      exact e
    · obtain ⟨left, e⟩ := ih (got := got ++ [x]) (by rw [List.length_append, List.length_singleton]; omega) m
      refine ⟨left, ?_⟩
      rw [State.line_sck_of_lt (s := { s with misoOut := m, spi := .selected .ignoring got }) running rfl (by omega)]
      have same : got.length + (x :: bits).length = (got ++ [x]).length + bits.length := by
        simp only [List.length_append, List.length_cons, List.length_nil]
        omega
      rw [same]
      exact e

/-! ## Frames that are discarded (O10) -/

theorem portOpen_u (s : State) : PortOpen s .u := fun e => nomatch e

theorem exec_frameDiscard {s : State} {p : PortId} (running : s.held = false) (isOpen : PortOpen s p) (bytes : List Byte) :
    exec (.frameDiscard p bytes) s = .next (s.frameEnded p bytes.length) := by
  change execFrameDiscard p bytes s = _
  unfold execFrameDiscard
  rw [whenRunning_of_running running, State.atPort_of_open isOpen]

theorem exec_writeAborted {s : State} (running : s.held = false) (idle : s.spi = .deselected) (bytes : List Byte) :
    exec (.writeAborted bytes) s = .next { s with misoOut := fillers (1 + bytes.length) } := by
  change execWriteAborted bytes s = _
  unfold execWriteAborted
  rw [whenRunning_of_running running, State.atPort_of_open fun _ => idle]

/-- Settles O10: by the receiver's branches, and by the transactions that are ignored. -/
theorem discardedFramesReachNothing : Obligations.DiscardedFramesReachNothing := by
  intro s running
  refine ⟨fun bytes => ?_, ?_, fun started => ?_, fun idle => ⟨fun bytes => ⟨?_, ?_⟩, fun b rest other => ?_, fun bits short => ?_⟩,
    fun got bits ignoring short => ?_⟩
  · obtain ⟨ports, table, link⟩ := Frames.same_frameEnded s .u bytes.length
    exact ⟨_, exec_frameDiscard running (portOpen_u s) bytes, Frames.frameTaken_frameEnded s .u _, ports, table, link⟩
  · change execFramingError s = _
    unfold execFramingError
    rw [whenRunning_of_running running]
  · change execGapTimerExpiry s = _
    unfold execGapTimerExpiry
    rw [whenRunning_of_running running]
    obtain ⟨n, gap⟩ := Option.isSome_iff_exists.1 started
    rw [gap]
  · exact exec_frameDiscard running (fun _ => idle) bytes
  · exact exec_writeAborted running idle bytes
  · refine transaction_other running idle ?_ rest
    simp only [List.mem_cons, List.not_mem_nil, or_false, not_or] at other
    unfold spiCommand
    rw [if_neg other.1, if_neg other.2.1, if_neg other.2.2]
  · rw [List.cons_append, lines_cons, line_csAssert running idle, lines_append]
    have cut := lines_sck_of_lt bits (s := selected s .command []) (phase := .command) (bits := []) running rfl (by simpa using short)
    refine (congrArg (fun u => lines u [.csDeassert]) cut).trans ?_
    refine (line_csDeassert (s := { selected s .command [] with spi := .selected .command ([] ++ bits) }) running).trans ?_
    exact deselected_eq idle []
  · obtain ⟨left, e⟩ := lines_sck_ignoring bits running short s.misoOut
    rw [← ignoring] at e
    rw [lines_append, show s = { s with misoOut := s.misoOut, spi := s.spi } from rfl, e]
    exact line_csDeassert running

/-! ## Characters at port U (O11) -/

theorem exec_receivedCharacter {s : State} (running : s.held = false) (high : s.urxLow = false) (b : Byte) :
    exec (.receivedCharacter b) s = .next (match s.framer with
      | .hunt => if b = 0xA5#8 then { s with framer := .receiving [], gapTimer := some Config.gapTicks } else s
      | .receiving got =>
        if frameTooLong (got ++ [b]) then s.frameEnded .u (got ++ [b]).length
        else if frameComplete (got ++ [b]) then s.receive .u (got ++ [b])
        else { s with framer := .receiving (got ++ [b]), gapTimer := some Config.gapTicks }) := by
  change execReceivedCharacter b s = _
  unfold execReceivedCharacter
  rw [whenRunning_of_running running, high]
  rfl

theorem exec_character_receiving {s : State} (running : s.held = false) (high : s.urxLow = false) {got : List Byte}
    (receiving : s.framer = .receiving got) (b : Byte) :
    exec (.receivedCharacter b) s = .next (if frameTooLong (got ++ [b]) then s.frameEnded .u (got ++ [b]).length
        else if frameComplete (got ++ [b]) then s.receive .u (got ++ [b])
        else { s with framer := .receiving (got ++ [b]), gapTimer := some Config.gapTicks }) := by
  rw [exec_receivedCharacter running high, receiving]

theorem frameEnded_u {s : State} (high : s.urxLow = false) (n : Nat) : s.frameEnded .u n = { s with framer := .hunt, gapTimer := none } := by
  unfold State.frameEnded
  rw [← high]

theorem characters_cons {s t : State} {b : Byte} (h : exec (.receivedCharacter b) s = .next t) (bs : List Byte) :
    characters (b :: bs) s = characters bs t := by
  rw [characters, h]

/-- The rest of a good frame, character by character. -/
theorem characters_receiving {s : State} (running : s.held = false) (high : s.urxLow = false) (bs : List Byte) {got : List Byte}
    (more : FrameOpen got) (good : (byteAt (got ++ bs) 5).toNat ≤ 32) (whole : (got ++ bs).length = 8 + (byteAt (got ++ bs) 5).toNat)
    (g : Option Nat) : characters bs { s with framer := .receiving got, gapTimer := g } = s.receive .u (got ++ bs) := by
  induction bs generalizing got g with
  | nil =>
    rw [List.append_nil] at whole
    obtain short | ⟨-, short⟩ := more <;> omega
  | cons b bs ih =>
    have split : got ++ b :: bs = got ++ [b] ++ bs := by simp
    rw [split] at good whole ⊢
    have takes := exec_character_receiving (s := { s with framer := .receiving got, gapTimer := g }) running high rfl b
    obtain ⟨tooLong, above⟩ | ⟨fits, complete, low⟩ | ⟨fits, part, more⟩ := frameOpen_concat more b
    · have length := (frameTooLong_iff.1 tooLong).1
      rw [byteAt_append (by omega)] at good
      omega
    · rw [if_neg (by rw [fits]; exact nofun), if_pos complete] at takes
      obtain ⟨six, whole'⟩ := frameComplete_iff.1 complete
      rw [byteAt_append (by omega), List.length_append, whole'] at whole
      obtain rfl : bs = [] := List.eq_nil_of_length_eq_zero (by omega)
      rw [characters_cons takes, List.append_nil]
      rfl
    · rw [if_neg (by rw [fits]; exact nofun), if_neg (by rw [part]; exact nofun)] at takes
      rw [characters_cons takes]
      exact ih more good whole _

/-- Settles O11: the framer's branches; then the frame character by character, and byte by byte at port S. -/
theorem charactersArriveAsFrames : Obligations.CharactersArriveAsFrames := by
  refine ⟨fun s b running high => ⟨fun hunt start => ?_, fun hunt other => ?_, fun got receiving => ⟨fun five long => ?_,
      fun six whole => ?_, fun fits part => ?_⟩⟩, fun s b running low => ⟨?_, ?_⟩,
    fun s bytes q running high hunt parsed whole => ?_, fun s bytes running idle => ⟨?_, fun bad => ⟨?_, ?_⟩⟩⟩
  · rw [exec_receivedCharacter running high, hunt]
    exact congrArg _ (if_pos start)
  · rw [exec_receivedCharacter running high, hunt]
    exact congrArg _ (if_neg other)
  · have at5 : byteAt (got ++ [b]) 5 = b := by
      unfold byteAt
      rw [List.getD_append_right _ _ _ _ (by omega), five]
      rfl
    have tooLong : frameTooLong (got ++ [b]) = true := frameTooLong_iff.2 ⟨by rw [List.length_append, five]; rfl, by rw [at5]; exact long⟩
    rw [exec_character_receiving running high receiving, if_pos tooLong, frameEnded_u high]
  · have at5 : byteAt (got ++ [b]) 5 = byteAt got 5 := byteAt_append (by omega) _
    have length : (got ++ [b]).length = got.length + 1 := List.length_append
    have complete : frameComplete (got ++ [b]) = true := frameComplete_iff.2 ⟨by omega, by rw [at5, length, whole]⟩
    have fits : frameTooLong (got ++ [b]) ≠ true := fun h => by
      have := (frameTooLong_iff.1 h).1
      omega
    have takes : exec (.receivedCharacter b) s = .next (s.receive .u (got ++ [b])) := by
      rw [exec_character_receiving running high receiving, if_neg fits, if_pos complete]
    refine ⟨takes.trans (exec_goodFrame_of_open running (portOpen_u s) _).symm, fun bad => takes.trans ?_⟩
    unfold State.receive
    rw [bad]
    exact congrArg _ (frameEnded_u high _)
  · have length : (got ++ [b]).length = got.length + 1 := List.length_append
    have fits' : frameTooLong (got ++ [b]) ≠ true := fun h => by
      obtain ⟨six, high⟩ := frameTooLong_iff.1 h
      have five : got.length = 5 := by omega
      have at5 : byteAt (got ++ [b]) 5 = b := by
        unfold byteAt
        rw [List.getD_append_right _ _ _ _ (by omega), five]
        rfl
      rw [at5] at high
      exact absurd high (Nat.not_lt.2 (fits five))
    have part' : frameComplete (got ++ [b]) ≠ true := fun h => by
      obtain ⟨six, whole⟩ := frameComplete_iff.1 h
      have six' : 6 ≤ got.length := by omega
      rw [byteAt_append six'] at whole
      exact part six' (length ▸ whole)
    rw [exec_character_receiving running high receiving, if_neg fits', if_neg part']
    rfl
  · change execReceivedCharacter b s = _
    unfold execReceivedCharacter
    rw [whenRunning_of_running running, if_pos low]
  · unfold State.line
    rw [if_neg (by rw [running]; exact nofun)]
    rfl
  · obtain ⟨good, long, payload⟩ := length_of_parseFrame parsed
    have length : bytes.length = 8 + (byteAt bytes 5).toNat := by
      rw [whole, payload, List.length_take, List.length_drop]
      omega
    have start : exec (.receivedCharacter 0xA5#8) s = .next { s with framer := .receiving [], gapTimer := some Config.gapTicks } := by
      rw [exec_receivedCharacter running high, hunt]
      rfl
    rw [exec_goodFrame_of_open running (portOpen_u s), characters_cons start, characters_receiving running high bytes frameOpen_nil good length]
    rfl
  · rw [exec_goodFrame_of_open running fun _ => idle, transaction_write running idle]
  · rw [exec_frameDiscard running fun _ => idle, transaction_write running idle]
    unfold State.receive
    rw [bad]
  · rw [exec_writeAborted running idle, transaction_write running idle]
    unfold State.receive
    rw [bad]
    rfl

end Sys2Proof.PortLines
end

section
/-! PROOF. A port reset and the responses that leave the ports (O12, O13). -/

namespace Sys2Proof.Responses

open Sys2Proof.Machine Sys2Proof.Safety Sys2Proof.Steps Sys2Proof.PortLines

/-! ## The port reset (R146, R158) -/

theorem exec_portReset {s : State} {p : PortId} (running : s.held = false) (isOpen : PortOpen s p) (fresh : s.inBreak p = false) :
    exec (.portReset p) s = .next ((s.portStopped p).modPort p Port.portReset) := by
  change execPortReset p s = _
  unfold execPortReset
  rw [whenRunning_of_running running, State.atPort_of_open isOpen, if_neg (by rw [fresh]; exact nofun)]

/-- The port-reset command byte by itself, and the rest of its transaction ignored (R142). -/
theorem transaction_portReset {s : State} (running : s.held = false) (idle : s.spi = .deselected) (rest : List Byte) :
    transaction s (0x99#8 :: rest) = { s.modPort .s Port.portReset with misoOut := fillers (1 + rest.length) } := by
  have byte : (selected s .command []).spiByte .command 0x99#8 = selected (s.modPort .s Port.portReset) .ignoring [filler] := rfl
  rw [transaction_cons running idle, byte, Nat.add_comm, fillers_succ]
  exact lines_ignored (s := s.modPort .s Port.portReset) running idle rest [filler]

/-- Settles O12: the reset of the one port, and what the break does at port U. -/
theorem portResetReachesOnePort : Obligations.PortResetReachesOnePort := by
  refine ⟨fun s p running isOpen fresh => ?_, fun s running low => ?_⟩
  · have fresh : s.inBreak p = false := by
      cases p
      · rfl
      · exact fresh rfl
    refine ⟨_, exec_portReset running isOpen fresh, ?_⟩
    have own : ((s.portStopped p).modPort p Port.portReset).port p = (s.port p).portReset := by cases p <;> rfl
    rw [own]
    refine ⟨Pending.portReset_slots _, rfl, rfl, rfl, rfl, rfl, rfl, rfl, fun i => Pending.mem_portReset_discard, ?_⟩
    cases p with
    | s =>
      exact ⟨rfl, ⟨fun _ => rfl, rfl⟩, ⟨rfl, rfl⟩, rfl, rfl, rfl, rfl, rfl, rfl, rfl, rfl, rfl, rfl, rfl, nofun,
        fun _ => ⟨rfl, rfl, rfl, rfl, rfl, fun rest => transaction_portReset running (isOpen rfl) rest⟩⟩
    | u =>
      refine ⟨rfl, ⟨fun _ => rfl, rfl⟩, ⟨rfl, rfl⟩, rfl, rfl, rfl, rfl, rfl, rfl, rfl, rfl, rfl, rfl, rfl,
        fun _ => ⟨rfl, rfl, rfl, rfl, fun idle => ?_, fun k c cs sending => ?_, fun c stopping => ?_⟩, nofun⟩
      · change s.uTx.cut = _
        rw [idle]
        rfl
      · change s.uTx.cut = _
        rw [sending]
        rfl
      · change s.uTx.cut = _
        rw [stopping]
        rfl
  · change execPortReset .u s = _
    unfold execPortReset
    rw [whenRunning_of_running running, State.atPort_u]
    exact congrArg _ (if_pos low)

/-! ## A response read at port S (R144, R193) -/

/-- The bytes that are clocked out of what port S has ready, and filler after them. -/
def clockedOut (left : List Byte) (n : Nat) : List Byte := (left ++ fillers (n - left.length)).take n

theorem clockedOut_succ (left : List Byte) (n : Nat) :
    clockedOut left (n + 1) = (SpiPhase.reading none left).out :: clockedOut left.tail n := by
  unfold clockedOut
  cases left with
  | nil => simp [fillers_succ, SpiPhase.out]
  | cons b left => simp [SpiPhase.out]

theorem clockedOut_of_le {left : List Byte} {n : Nat} (le : left.length ≤ n) : clockedOut left n = left ++ fillers (n - left.length) := by
  unfold clockedOut
  refine List.take_of_length_le ?_
  rw [List.length_append, fillers, List.length_replicate]
  omega

theorem clockedOut_of_ge {left : List Byte} {n : Nat} (le : n ≤ left.length) : clockedOut left n = left.take n := by
  unfold clockedOut
  rw [List.take_append_of_le_length le]

/-- The end of a read transaction: the response is delivered if every byte of it has gone. -/
def readEnd (s : State) (slot : Option SlotId) (left : List Byte) : State :=
  match slot with
  | some k => if left = [] then s.modPort .s (·.deliver k) else s
  | none => s

/-- What is left of a response is shifted out as far as it is clocked. -/
theorem lines_reading {s : State} (running : s.held = false) (idle : s.spi = .deselected) (slot : Option SlotId) (bs left m : List Byte) :
    lines (selected s (.reading slot left) m) (bs.flatMap pulses ++ [.csDeassert])
      = readEnd { s with misoOut := m ++ clockedOut left bs.length } slot (left.drop bs.length) := by
  induction bs generalizing left m with
  | nil =>
    rw [lines_selected_nil running, show m ++ clockedOut left ([] : List Byte).length = m from List.append_nil m, ← deselected_eq idle]
    unfold readEnd
    cases slot with
    | none => rfl
    | some k => cases left <;> rfl
  | cons b bs ih =>
    have out : (SpiPhase.reading slot left).out = (SpiPhase.reading none left).out := by cases left <;> rfl
    have byte : (selected s (.reading slot left) m).spiByte (.reading slot left) b
        = selected s (.reading slot left.tail) (m ++ [(SpiPhase.reading none left).out]) := by
      rw [← out]
      rfl
    have drop : left.drop (bs.length + 1) = left.tail.drop bs.length := by cases left <;> simp
    rw [lines_selected_cons running, byte, ih, List.length_cons, clockedOut_succ, drop, List.append_assoc]
    rfl

/-- A read-response transaction (R144). -/
theorem transaction_read {s : State} (running : s.held = false) (idle : s.spi = .deselected) (rest : List Byte) :
    transaction s (0xC3#8 :: rest) = readEnd { s with misoOut := filler :: clockedOut s.portS.readout rest.length }
      (s.portS.headResponse.map (·.1)) (s.portS.readout.drop rest.length) := by
  have byte : (selected s .command []).spiByte .command 0xC3#8
      = selected s (.reading (s.portS.headResponse.map (·.1)) s.portS.readout) [filler] := rfl
  rw [transaction_cons running idle, byte, lines_reading running idle]
  rfl

/-- READ_RESPONSE is that transaction. -/
theorem exec_readResponse {s : State} (running : s.held = false) (idle : s.spi = .deselected) (n : Nat) :
    exec (.readResponse n) s = .next (readEnd { s with misoOut := filler :: clockedOut s.portS.readout n }
      (s.portS.headResponse.map (·.1)) (s.portS.readout.drop n)) := by
  change execReadResponse n s = _
  unfold execReadResponse
  rw [whenRunning_of_running running, State.atPort_of_open fun _ => idle]
  cases s.portS.headResponse with
  | none => rfl
  | some x =>
    unfold readEnd
    simp only [Option.map_some, List.drop_eq_nil_iff]
    rfl

theorem readout_of_head {p : Port} {k : SlotId} {r : Response} (head : p.headResponse = some (k, r)) :
    p.readout = 0xA5#8 :: responseBytes r := by
  unfold Port.readout
  rw [head]

theorem readout_of_none {p : Port} (empty : p.headResponse = none) : p.readout = [0x00#8] := by
  unfold Port.readout
  rw [empty]

/-- A delivered slot is FREE and the others stand. -/
theorem deliver_slots (p : Port) (k : SlotId) :
    (p.deliver k).slots[k] = .free ∧ ∀ j : SlotId, j ≠ k → (p.deliver k).slots[j] = p.slots[j] :=
  ⟨(p.slots_setSlot k k _).trans (if_pos rfl), fun j ne => (p.slots_setSlot k j _).trans (if_neg ne)⟩

/-! ## The lines of both ports (R142, R145) -/

/-- A byte received shifts one out. -/
theorem misoOut_spiByte (s : State) (phase : SpiPhase) (b : Byte) : (s.spiByte phase b).misoOut = s.misoOut ++ [phase.out] := by
  unfold State.spiByte
  cases phase with
  | command => dsimp only; cases spiCommand b <;> rfl
  | writing got =>
    dsimp only
    split
    · rfl
    · split
      · cases parseFrame (got ++ [b]) <;> rfl
      · rfl
  | reading slot left => rfl
  | ignoring => rfl

theorem pulses_take {k : Nat} (lt : k < 8) (b : Byte) :
    (pulses b).take k = ((List.range k).map fun j => b.getLsbD (7 - j)).map .sck := by
  unfold pulses
  rw [← List.map_take, List.take_range, Nat.min_eq_left (Nat.le_of_lt lt), List.map_map]
  rfl

/-- The level of a line over the character that it carries: start bit, the bits from the least significant, stop bit. -/
theorem levelAt_char (c : Byte) (rest : List Byte) : levelAt (c :: rest) 0 = false ∧ (∀ j < 8, levelAt (c :: rest) (1 + j) = c.getLsbD j)
    ∧ levelAt (c :: rest) 9 = true := by
  unfold levelAt
  rw [List.flatMap_cons]
  refine ⟨rfl, fun j lt => ?_, rfl⟩
  interval_cases j <;> rfl

theorem levelAt_after (c : Byte) {n : Nat} (le : 9 ≤ n) : levelAt [c] n = true := by
  obtain rfl | lt := Nat.eq_or_lt_of_le le
  · rfl
  · refine List.getD_eq_default _ _ ?_
    exact lt

/-! ## The statement -/

/-- Settles O13: the read transaction by how far it is clocked, then the transmitter's three states. -/
theorem responsesAreDelivered : Obligations.ResponsesAreDelivered := by
  refine ⟨fun s n running idle => ⟨fun k r head whole => ?_, fun k r head cut => ?_, fun empty some => ?_, fun rest length => ?_⟩,
    fun s phase b running open' => ⟨phase.out, ?_, fun k lt => ?_⟩, fun s k r running idle head => ?_,
    fun s k cs running sending => ⟨?_, fun c d rest chars => ?_, fun c rest chars => ?_⟩,
    fun s running => ⟨fun c stopping => ⟨?_, ?_, ?_⟩, fun idle n => ?_⟩, fun p k r => ?_⟩
  · have le : (0xA5#8 :: responseBytes r).length ≤ n := by rw [List.length_cons, Nat.add_comm]; exact whole
    have done := exec_readResponse running idle n
    rw [readout_of_head head, head, List.drop_of_length_le le, clockedOut_of_le le] at done
    obtain ⟨slot, slots⟩ := deliver_slots s.portS k
    refine ⟨_, done, ?_, slot, rfl, slots, rfl⟩
    rw [Nat.sub_sub, Nat.add_comm 1]
    rfl
  · have lt : n < (0xA5#8 :: responseBytes r).length := by rw [List.length_cons, Nat.add_comm]; exact cut
    rw [exec_readResponse running idle, readout_of_head head, head, clockedOut_of_ge (Nat.le_of_lt lt)]
    refine congrArg _ (if_neg ?_)
    rw [List.drop_eq_nil_iff]
    exact Nat.not_le_of_lt lt
  · rw [exec_readResponse running idle, readout_of_none empty, empty, clockedOut_of_le (by exact some)]
    rfl
  · rw [exec_readResponse running idle, transaction_read running idle, length]
  · rw [lines_pulses running open', misoOut_spiByte]
  · rw [pulses_take lt, lines_sck_of_lt _ running open' (by simpa using lt)]
    unfold State.miso
    simp
  · change execResponseSendStart s = _
    unfold execResponseSendStart
    rw [whenRunning_of_running running, idle, head]
  · have done : exec .responseTransmitted s = .next ({ s with uTx := .idle }.modPort .u (·.deliver k)) := by
      change execResponseTransmitted s = _
      unfold execResponseTransmitted
      rw [whenRunning_of_running running, sending]
    obtain ⟨slot, slots⟩ := deliver_slots s.portU k
    exact ⟨_, done, rfl, slot, rfl, slots, rfl⟩
  · simp [State.line, running, State.runningLine, sending, chars]
  · unfold State.utx
    rw [sending, chars]
    exact levelAt_char c rest
  · change execResponseTransmitted s = _
    unfold execResponseTransmitted
    rw [whenRunning_of_running running, stopping]
  · simp [State.line, running, State.runningLine, stopping]
  · unfold State.utx
    rw [stopping]
    obtain ⟨start, bits, -⟩ := levelAt_char c []
    exact ⟨start, bits, fun n => levelAt_after c⟩
  · unfold State.utx
    rw [idle]
  · rw [PortLaws.headResponse_eq_some_iff]
    exact ⟨fun ⟨rest, order, slot⟩ => ⟨slot, rest, order⟩, fun ⟨slot, rest, order⟩ => ⟨rest, order, slot⟩⟩

end Sys2Proof.Responses
end

section
/-! PROOF. The arbiter and the check order of the requests (O14, O15, O17, O18). -/

namespace Sys2Proof.Checks

open Sys2Proof.Machine Sys2Proof.Safety Sys2Proof.LeasePeriods Sys2Proof.LaneFields

/-! ## The arbiter (R151, O14) -/

theorem firstQueued_isSome {p : Port} {k : SlotId} {q : Request} {f : Bool} (mem : k ∈ p.order) (queued : p.slots[k] = .queued q f) :
    ∃ x, p.firstQueued = some x := by
  refine Option.isSome_iff_exists.1 (List.findSome?_isSome_iff.2 ⟨k, mem, ?_⟩)
  rw [queued]
  rfl

theorem firstQueued_eq_none {p : Port} (idle : ∀ k ∈ p.order, ∀ q f, p.slots[k] ≠ .queued q f) : p.firstQueued = none := by
  refine List.findSome?_eq_none_iff.2 fun k mem => ?_
  split
  · next q f queued => exact absurd queued (idle k mem q f)
  all_goals rfl

theorem queuedAt_of_firstQueued {s : State} {p : PortId} {x : SlotId × Request × Bool} (first : (s.port p).firstQueued = some x) :
    ∃ c, s.queuedAt p = some c ∧ c.port = p :=
  ⟨_, by unfold State.queuedAt; rw [first]; rfl, rfl⟩

theorem queuedAt_eq_none {s : State} {p : PortId} (first : (s.port p).firstQueued = none) : s.queuedAt p = none := by
  unfold State.queuedAt
  rw [first]
  rfl

theorem eq_otherPort_of_ne {p q : PortId} (ne : p ≠ q) : p = otherPort q := by
  cases p <;> cases q
  · exact absurd rfl ne
  · rfl
  · rfl
  · exact absurd rfl ne

/-- Settles O14: the first QUEUED slot of the port not served last, and else of the other one. -/
theorem arbiterIsRoundRobin : Obligations.ArbiterIsRoundRobin := by
  refine ⟨fun s => ⟨fun c chosen => Port.firstQueued_spec (State.choice_spec chosen), ?_⟩, rfl, rfl⟩
  rintro p ⟨k, q, f, mem, queued⟩ turn
  obtain ⟨x, first⟩ := firstQueued_isSome mem queued
  obtain ⟨c, found, port⟩ := queuedAt_of_firstQueued first
  refine ⟨c, ?_, port⟩
  unfold State.choice
  by_cases last : p = s.lastServed
  · obtain ne | idle := turn
    · exact absurd last ne
    · rw [← last, queuedAt_eq_none (firstQueued_eq_none idle)]
      exact found
  · rw [← eq_otherPort_of_ne last, found]

/-! ## Step 2, the shape of a payload (R153, R192) -/

theorem lengthIs_iff {c : Ctx} {n : Nat} : c.lengthIs n = true ↔ c.req.payload.length = n := beq_iff_eq

theorem defineShape_iff {pl : List Byte} : defineShape pl = true ↔ shapeOk .defineLane pl := by
  simp [defineShape, shapeOk]

/-- A 16-bit value with no bit at 10 to 15 is below 1024. -/
theorem lt_of_and_reserved {m : Half} (h : m &&& 0xFC00#16 = 0#16) : m.toNat < 1024 := by
  have high : ∀ k, 10 ≤ k → m.getLsbD k = false := fun k le => by
    by_cases lt : k < 16
    · have bit := congrArg (·.getLsbD k) h
      have reserved : ∀ j : Fin 16, 10 ≤ j.val → (0xFC00#16).getLsbD j = true := by decide
      simpa [reserved ⟨k, lt⟩ le] using bit
    · exact BitVec.getLsbD_of_ge m k (by omega)
  show m.toNat < 2 ^ 10
  refine Nat.lt_pow_two_of_testBit m.toNat fun k le => ?_
  exact high k le

theorem amendShape_iff {pl : List Byte} : amendShape pl = true ↔ shapeOk .amendLane pl := by
  refine ⟨fun h => ?_, fun ⟨length, mask, reserved⟩ => amendShape_of length mask reserved⟩
  simp only [amendShape, Bool.and_eq_true, beq_iff_eq, decide_eq_true_eq] at h
  obtain ⟨⟨length, bits⟩, reserved⟩ := h
  exact ⟨length, toNat_amendMask pl ▸ lt_of_and_reserved bits, reserved⟩

theorem ratioShape_iff {pl : List Byte} : ratioShape pl = true ↔ shapeOk .setRatio pl := by
  refine ⟨fun h => ?_, fun ⟨length, reserved⟩ => ratioShape_of length reserved⟩
  have bits : ∀ x : Byte, x &&& 0x7E#8 = 0#8 → ∀ b : Fin 6, x.getLsbD (b.val + 1) = false := by decide +kernel
  simp only [ratioShape, Bool.and_eq_true, beq_iff_eq] at h
  exact ⟨h.1, bits _ h.2⟩

theorem maskShape_iff {pl : List Byte} : maskShape pl = true ↔ shapeOk .setAttentionMask pl := by
  simp [maskShape, shapeOk]

theorem ackShape_iff {pl : List Byte} : ackShape pl = true ↔ shapeOk .ackAttention pl := by
  refine ⟨fun h => ?_, ackShape_of⟩
  simp only [ackShape, Bool.and_eq_true, beq_iff_eq, decide_eq_true_eq] at h
  exact ⟨pl.length / 2, by omega, by omega⟩

/-! ## What a request's own steps come to -/

/-- If the request's slot is answered, then with OK. -/
def AtMostOk (c : Ctx) (t : State) : Prop := ∀ x, (t.port c.port).slots[c.slot] = .answered x → x.result = .ok

theorem atMostOk_of_executing {c : Ctx} {t : State} (slot : (t.port c.port).slots[c.slot] = .executing c.req c.lapsed) : AtMostOk c t := by
  intro x h
  rw [slot] at h
  cases h

theorem atMostOk_congr {c : Ctx} {t u : State} (ports : ∀ p, u.port p = t.port p) (clean : AtMostOk c t) : AtMostOk c u := by
  unfold AtMostOk
  rw [ports]
  exact clean

theorem atMostOk_modPort {c : Ctx} {t : State} {p : PortId} {f : Port → Port}
    (adds : ∀ (q : Port) (k : SlotId) (x : Response), (f q).slots[k] = .answered x → q.slots[k] = .answered x ∨ x.result = .ok) (clean : AtMostOk c t) :
    AtMostOk c (t.modPort p f) := by
  intro x h
  rw [State.port_modPort] at h
  split at h
  · next own =>
    obtain old | ok := adds _ _ _ h
    · rw [← own] at old
      exact clean x old
    · exact ok
  · exact clean x h

theorem atMostOk_modPort_of_slots {c : Ctx} {t : State} {p : PortId} {f : Port → Port} (slots : ∀ q, (f q).slots = q.slots)
    (clean : AtMostOk c t) : AtMostOk c (t.modPort p f) :=
  atMostOk_modPort (fun q _ _ h => .inl (by rwa [slots q] at h)) clean

theorem atMostOk_answer {c : Ctx} {t : State} {p : PortId} {k : SlotId} {payload : List Byte} (clean : AtMostOk c t) :
    AtMostOk c (t.modPort p (·.answer k .ok payload)) := by
  refine atMostOk_modPort (fun q j x h => ?_) clean
  unfold Port.answer at h
  split at h
  · change (q.setSlot k _).slots[j] = _ at h
    rw [Port.slots_setSlot] at h
    split at h
    · cases h
      exact .inr rfl
    · exact .inl h
  all_goals exact .inl h

theorem atMostOk_putLane {c : Ctx} {t : State} {i : LaneId} {o : Option Lane} (clean : AtMostOk c t) : AtMostOk c (t.putLane i o) :=
  atMostOk_congr (fun p => State.port_putLane t i o p) clean

theorem atMostOk_preemptClear {c : Ctx} {t : State} {j : LaneId} {m : Option Marker} (clean : AtMostOk c t) :
    AtMostOk c (t.preemptClear j m) := by
  cases m with
  | none => exact clean
  | some m =>
    have answered : AtMostOk c (t.modPort m.port (·.answerLong j m.slot .ok [])) := by
      by_cases drops : (t.port m.port).discard.contains j = true
      · have same : t.modPort m.port (·.answerLong j m.slot .ok [])
            = t.modPort m.port (fun q => { q with discard := q.discard.filter (· != j) }) := by
          cases port : m.port <;> rw [port] at drops <;> simp only [State.modPort] <;> congr 1 <;> exact if_pos drops
        rw [same]
        exact atMostOk_modPort_of_slots (fun _ => rfl) clean
      · have same : t.modPort m.port (·.answerLong j m.slot .ok []) = t.modPort m.port (·.answer m.slot .ok []) := by
          cases port : m.port <;> rw [port] at drops <;> simp only [State.modPort] <;> congr 1 <;> exact if_neg drops
        rw [same]
        exact atMostOk_answer clean
    exact atMostOk_congr (t := t.modPort m.port (·.answerLong j m.slot .ok [])) (fun p => by cases p <;> rfl) answered

theorem atMostOk_report {c : Ctx} {t : State} {i : LaneId} {r : LaneReport} (clean : AtMostOk c t) : AtMostOk c (t.report i r) := by
  have takes : ∀ q : Port, (q.takeLane i r).slots = q.slots := fun q => Port.takeLane_slots q i r
  unfold State.report
  split
  · exact atMostOk_modPort_of_slots takes clean
  · exact atMostOk_modPort_of_slots takes (atMostOk_modPort_of_slots takes clean)

/-- A resolution event answers CLEAR_TRIP requests alone, with OK (R112). -/
theorem atMostOk_leaveTripped {c : Ctx} {t : State} {root : LaneId} {a : Bool} (clean : AtMostOk c t) :
    AtMostOk c (t.leaveTripped root a) := by
  refine foldl_keeps (AtMostOk c) (fun u j keeps => ?_) allLanes t clean
  unfold State.resolveOne
  split
  · exact keeps
  · split
    · next b _ =>
      unfold State.leaveOne
      cases b
      · exact atMostOk_preemptClear (atMostOk_putLane keeps)
      · exact atMostOk_preemptClear (atMostOk_report (atMostOk_putLane keeps))
    · split
      · exact keeps
      · split
        · exact atMostOk_putLane keeps
        · exact keeps

theorem atMostOk_enterVacant {c : Ctx} {t : State} {i : LaneId} (clean : AtMostOk c t) : AtMostOk c (t.enterVacant i) := by
  refine atMostOk_modPort_of_slots (fun q => Port.dropLane_slots q i) (atMostOk_modPort_of_slots (fun q => Port.dropLane_slots q i) ?_)
  exact atMostOk_congr (fun p => by cases p <;> rfl) clean

theorem atMostOk_amend {c : Ctx} {t : State} {i : LaneId} {m : Half} {cfg : LaneCfg} {l : Lane} (clean : AtMostOk c t) :
    AtMostOk c (t.amend i m cfg l) := by
  unfold State.amend
  split
  · exact atMostOk_putLane clean
  · exact atMostOk_congr (fun p => by cases p <;> rfl) clean

/-- A request's own steps refuse it and change nothing, or accept it. -/
def Decides (c : Ctx) (u : State) (out : Answer × State) : Prop :=
  (∃ r, r ≠ .ok ∧ out = (.refuse r, u)) ∨ (∀ r, out.1 ≠ .refuse r) ∧ (AtMostOk c u → AtMostOk c out.2)

section
variable {c : Ctx} {u : State}

@[simp] theorem decides_refuse {r : Result} : Decides c u (.refuse r, u) ↔ r ≠ .ok := by simp [Decides]

@[simp] theorem decides_same {payload : List Byte} : Decides c u (.ok payload, u) := .inr ⟨nofun, id⟩

@[simp] theorem decides_put {payload : List Byte} {i : LaneId} {o : Option Lane} : Decides c u (.ok payload, u.putLane i o) :=
  .inr ⟨nofun, atMostOk_putLane⟩

theorem decides_accepts {a : Answer} {v : State} (accepts : ∀ r, a ≠ .refuse r) (keeps : AtMostOk c u → AtMostOk c v) :
    Decides c u (a, v) := .inr ⟨accepts, keeps⟩

theorem parentRefusal_ne_ok (cycle : Bool) (parent : LaneId) (height : Nat) : u.parentRefusal cycle parent height ≠ some .ok := by
  unfold State.parentRefusal
  split
  · exact nofun
  · split
    · exact nofun
    · split
      · exact nofun
      all_goals split <;> exact nofun

theorem sourceRefusal_ne_ok (i : LaneId) (src : Source) : u.sourceRefusal i src ≠ some .ok := by
  unfold State.sourceRefusal
  split
  · exact nofun
  · exact parentRefusal_ne_ok _ _ _

theorem defineRefusal_ne_ok (i : LaneId) (cfg : LaneCfg) (src : Source) : u.defineRefusal i cfg src ≠ some .ok := by
  unfold State.defineRefusal
  split
  · exact nofun
  · split
    · exact nofun
    · exact parentRefusal_ne_ok _ _ _

end

/-! ## The form of a request's checks (R153) -/

/-- Steps 2 to 7 of a changing request of a lane that is not VACANT, its shape test the spec's, then its own steps. -/
def ChangingForm (act : Request.Action) (c : Ctx) (shape : Prop) (claiming : Bool) : Prop :=
  ∃ (test : Bool) (rest : LaneId → Lane → State → Answer × State), (test = true ↔ shape)
    ∧ (∀ t, act c t = changing c test claiming t rest) ∧ ∀ i l u, Decides c u (rest i l u)

/-- Steps 2 and 3 of a request that names no lane, then its own steps. -/
def DeviceForm (act : Request.Action) (c : Ctx) (shape : Prop) : Prop :=
  ∃ (test : Bool) (rest : State → Answer × State), (test = true ↔ shape)
    ∧ (∀ t, act c t = laneless c test t (rest t)) ∧ ∀ u, Decides c u (rest u)

section
variable {c : Ctx}

theorem amendLane_form : ChangingForm amendAction c (shapeOk .amendLane c.req.payload) false := by
  refine ⟨_, _, amendShape_iff, fun _ => rfl, fun i l u => ?_⟩
  dsimp only
  split_ifs
  case neg =>
    split
    · simp
    · split_ifs
      · simp
      · simp
      · exact decides_accepts nofun atMostOk_amend
  all_goals simp

theorem pinLane_form : ChangingForm pinAction c (shapeOk .pinLane c.req.payload) false :=
  ⟨_, _, lengthIs_iff, fun _ => rfl, fun _ _ _ => decides_put⟩

theorem retireLane_form : ChangingForm retireAction c (shapeOk .retireLane c.req.payload) false := by
  refine ⟨_, _, lengthIs_iff, fun _ => rfl, fun i l u => ?_⟩
  split
  · simp
  · split
    · simp
    · split
      · simp
      · exact decides_accepts nofun atMostOk_enterVacant

theorem start_form : ChangingForm startAction c (shapeOk .start c.req.payload) false := by
  refine ⟨_, _, lengthIs_iff, fun _ => rfl, fun i l u => ?_⟩
  split_ifs
  case neg =>
    cases l.view with
    | none => simp
    | some v => dsimp only; split_ifs <;> simp
  all_goals simp

theorem stop_form : ChangingForm stopAction c (shapeOk .stop c.req.payload) false :=
  ⟨_, _, lengthIs_iff, fun _ => rfl, fun _ l _ => by cases l.mode <;> simp⟩

theorem hold_form : ChangingForm holdAction c (shapeOk .hold c.req.payload) false :=
  ⟨_, _, lengthIs_iff, fun _ => rfl, fun _ l _ => by cases l.mode <;> simp⟩

theorem resume_form : ChangingForm resumeAction c (shapeOk .resume c.req.payload) false :=
  ⟨_, _, lengthIs_iff, fun _ => rfl, fun _ l _ => by split <;> simp⟩

theorem setPoint_form : ChangingForm setPointAction c (shapeOk .setPoint c.req.payload) false :=
  ⟨_, _, lengthIs_iff, fun _ => rfl, fun _ l _ => by split <;> simp⟩

theorem setSource_form : ChangingForm setSourceAction c (shapeOk .setSource c.req.payload) false := by
  refine ⟨_, _, lengthIs_iff, fun _ => rfl, fun i l u => ?_⟩
  split
  · simp
  · split
    · simp
    · split
      · next r e => exact decides_refuse.2 fun ok => sourceRefusal_ne_ok i _ (ok ▸ e)
      · simp

theorem setRatio_form : ChangingForm setRatioAction c (shapeOk .setRatio c.req.payload) false := by
  refine ⟨_, _, ratioShape_iff, fun _ => rfl, fun i l u => ?_⟩
  cases l.source with
  | fixed => simp
  | follow k => dsimp only; split <;> simp

theorem clearTrip_form : ChangingForm clearTripAction c (shapeOk .clearTrip c.req.payload) false := by
  refine ⟨_, _, lengthIs_iff, fun _ => rfl, fun i l u => ?_⟩
  split
  case h_1 => exact decides_accepts nofun atMostOk_leaveTripped
  case h_4 => exact decides_accepts nofun fun clean => atMostOk_congr (fun p => State.port_pushControl _ i .clear p) (atMostOk_putLane clean)
  all_goals simp

theorem appendSegment_form : ChangingForm appendAction c (shapeOk .appendSegment c.req.payload) false := by
  refine ⟨_, _, lengthIs_iff, fun _ => rfl, fun i l u => ?_⟩
  cases l.mode with
  | standby | active =>
    cases segmentOf c.req.payload with
    | none => simp
    | some g => dsimp only; split_ifs <;> simp
  | _ => simp

theorem runProfile_form : ChangingForm runProfileAction c (shapeOk .runProfile c.req.payload) false := by
  refine ⟨_, _, lengthIs_iff, fun _ => rfl, fun i l u => ?_⟩
  split
  case h_1 held run e =>
    split
    · simp
    · cases run <;> simp
  all_goals simp

theorem pauseProfile_form : ChangingForm pauseProfileAction c (shapeOk .pauseProfile c.req.payload) false :=
  ⟨_, _, lengthIs_iff, fun _ => rfl, fun _ l _ => by split <;> simp⟩

theorem flushProfile_form : ChangingForm flushProfileAction c (shapeOk .flushProfile c.req.payload) false :=
  ⟨_, _, lengthIs_iff, fun _ => rfl, fun _ _ _ => decides_put⟩

theorem claim_form : ChangingForm claimAction c (shapeOk .claim c.req.payload) true := by
  refine ⟨_, _, lengthIs_iff, fun _ => rfl, fun i l u => ?_⟩
  cases l.claim with
  | some k => simp
  | none => dsimp only; split <;> simp

theorem release_form : ChangingForm releaseAction c (shapeOk .release c.req.payload) false :=
  ⟨_, _, lengthIs_iff, fun _ => rfl, fun _ _ _ => decides_put⟩

/-- Every changing request but DEFINE_LANE has that form. -/
theorem changing_form : ∀ row ∈ changingRows, row ≠ .defineLane →
    ChangingForm (actionOf row) c (shapeOk row c.req.payload) (decide (row = .claim)) := by
  simp only [changingRows, List.forall_mem_cons]
  exact ⟨fun h => absurd rfl h, fun _ => amendLane_form, fun _ => pinLane_form, fun _ => retireLane_form, fun _ => start_form,
    fun _ => stop_form, fun _ => hold_form, fun _ => resume_form, fun _ => setPoint_form, fun _ => setSource_form,
    fun _ => setRatio_form, fun _ => clearTrip_form, fun _ => appendSegment_form, fun _ => runProfile_form, fun _ => pauseProfile_form,
    fun _ => flushProfile_form, fun _ => claim_form, fun _ => release_form, fun _ h => absurd h List.not_mem_nil⟩

theorem findDrive_form : DeviceForm findDriveAction c (shapeOk .findDrive c.req.payload) := by
  refine ⟨_, _, lengthIs_iff, fun _ => rfl, fun u => ?_⟩
  dsimp only
  split_ifs
  · simp
  · cases u.findDrive (byteAt c.req.payload 0).toNat <;> simp

theorem setLease_form : DeviceForm setLeaseAction c (shapeOk .setLease c.req.payload) :=
  ⟨_, _, lengthIs_iff, fun _ => rfl, fun _ => decides_accepts nofun (atMostOk_modPort_of_slots fun _ => rfl)⟩

theorem setAttentionMask_form : DeviceForm setAttentionMaskAction c (shapeOk .setAttentionMask c.req.payload) :=
  ⟨_, _, maskShape_iff, fun _ => rfl, fun _ => decides_accepts nofun (atMostOk_modPort_of_slots fun _ => rfl)⟩

theorem ackAttention_form : DeviceForm ackAttentionAction c (shapeOk .ackAttention c.req.payload) := by
  refine ⟨_, _, ackShape_iff, fun _ => rfl, fun u => ?_⟩
  dsimp only
  split
  · simp
  · exact decides_accepts nofun (atMostOk_modPort_of_slots fun _ => rfl)

theorem listLanes_form : DeviceForm listLanesAction c (shapeOk .listLanes c.req.payload) :=
  ⟨_, _, lengthIs_iff, fun _ => rfl, fun _ => decides_same⟩

theorem readAttention_form : DeviceForm readAttentionAction c (shapeOk .readAttention c.req.payload) :=
  ⟨_, _, lengthIs_iff, fun _ => rfl, fun _ => decides_same⟩

theorem readDevice_form : DeviceForm readDeviceAction c (shapeOk .readDevice c.req.payload) :=
  ⟨_, _, lengthIs_iff, fun _ => rfl, fun _ => decides_same⟩

theorem nop_form : DeviceForm nopAction c (shapeOk .nop c.req.payload) :=
  ⟨_, _, lengthIs_iff, fun _ => rfl, fun _ => decides_same⟩

/-- Every request that names no lane has that form. -/
theorem device_form : ∀ row ∈ deviceRows, DeviceForm (actionOf row) c (shapeOk row c.req.payload) := by
  simp only [deviceRows, List.forall_mem_cons]
  exact ⟨findDrive_form, listLanes_form, setLease_form, setAttentionMask_form, readAttention_form, ackAttention_form,
    readDevice_form, nop_form, fun _ h => absurd h List.not_mem_nil⟩

end

/-- A request that addresses a lane is DEFINE_LANE, reads the lane, or is another changing request (R122). -/
theorem laneRow_kinds : ∀ row ∈ laneRows,
    row = .defineLane ∨ row = .readLane ∨ row = .readProfile ∨ row ∈ changingRows ∧ row ≠ .defineLane := by
  decide

theorem changing_mem_laneRows : ∀ row ∈ changingRows, row ∈ laneRows := by decide

/-! ## Step 2 refuses (O15) -/

/-- A payload of the wrong shape is refused with nothing changed. -/
theorem shape_refuses {row : Instr} {c : Ctx} (request : row ∈ laneRows ++ deviceRows) (bad : ¬ shapeOk row c.req.payload) (t : State) :
    actionOf row c t = (.refuse .badField, t) := by
  have off : ∀ {b : Bool}, (b = true ↔ shapeOk row c.req.payload) → b = false := fun h => Bool.eq_false_iff.2 fun e => bad (h.1 e)
  obtain lane | device := List.mem_append.1 request
  · obtain rfl | rfl | rfl | ⟨mem, ne⟩ := laneRow_kinds row lane
    · show defineAction c t = _
      unfold defineAction
      rw [off defineShape_iff]
      rfl
    · show readLaneAction c t = _
      unfold readLaneAction
      rw [off lengthIs_iff]
      rfl
    · show readProfileAction c t = _
      unfold readProfileAction
      rw [off lengthIs_iff]
      rfl
    · obtain ⟨test, rest, shape, form, -⟩ := changing_form (c := c) row mem ne
      rw [form, off shape]
      rfl
  · obtain ⟨test, rest, shape, form, -⟩ := device_form (c := c) row device
    rw [form, off shape]
    rfl

theorem rowOfCode_unknown {b : Byte} (unknown : ∀ x ∈ codeTable, x.1 ≠ b) : rowOfCode b = .unknownRequest := by
  revert b
  decide +kernel

/-- Settles O15: the table by its entries; then the two first checks. -/
theorem codeAndShapeAreChecked : Obligations.CodeAndShapeAreChecked := by
  refine ⟨⟨by decide, fun b => rowOfCode_unknown⟩, fun s c serves => ⟨_, runEngine_of_serves serves unknownAction, ?_⟩,
    fun row s c request serves bad => ⟨_, exec_request request serves, ?_⟩⟩
  · exact onlyAnswered_of_refuse_plain rfl
  · exact onlyAnswered_of_refuse_plain (shape_refuses request bad _)

/-! ## Steps 4 to 7 (O17, O18) -/

theorem changing_of_vacant {c : Ctx} {i : LaneId} {t : State} (lane : laneOf c.req.lane = some i) (vacant : t.lane i = none)
    (claiming : Bool) (rest : LaneId → Lane → State → Answer × State) : changing c true claiming t rest = (.refuse .noLane, t) := by
  simp [changing, lane, vacant]

theorem changing_of_record {c : Ctx} {i : LaneId} {l : Lane} {t : State} (lane : laneOf c.req.lane = some i) (record : t.lane i = some l)
    (claiming : Bool) (rest : LaneId → Lane → State → Answer × State) :
    changing c true claiming t rest = keyed c claiming l t (rest i l) := by
  simp [changing, lane, record]

/-- A changing request of a lane that is not VACANT comes to its key check. -/
theorem action_keyed {row : Instr} {c : Ctx} {i : LaneId} {l : Lane} {t : State} (mem : row ∈ changingRows)
    (shape : shapeOk row c.req.payload) (lane : laneOf c.req.lane = some i) (record : t.lane i = some l) :
    ∃ rest, actionOf row c t = keyed c (decide (row = .claim)) l t rest := by
  by_cases define : row = .defineLane
  · subst define
    refine ⟨fun s => (.refuse .badState, s), ?_⟩
    show defineAction c t = _
    simp only [defineAction, defineShape_iff.2 shape, lane, record]
    rfl
  · obtain ⟨test, rest, holds, form, -⟩ := changing_form (c := c) row mem define
    refine ⟨rest i l, ?_⟩
    rw [form, holds.2 shape, changing_of_record lane record]

/-- A request that addresses a VACANT lane. -/
theorem action_vacant {row : Instr} {c : Ctx} {i : LaneId} {t : State} (mem : row ∈ laneRows) (define : row ≠ .defineLane)
    (read : row ≠ .readLane) (shape : shapeOk row c.req.payload) (lane : laneOf c.req.lane = some i) (vacant : t.lane i = none) :
    actionOf row c t = (.refuse .noLane, t) := by
  obtain rfl | rfl | rfl | ⟨mem, ne⟩ := laneRow_kinds _ mem
  · exact absurd rfl define
  · exact absurd rfl read
  · show readProfileAction c t = _
    have shape : c.lengthIs 1 = true := lengthIs_iff.2 shape
    simp [readProfileAction, shape, lane, vacant]
  · obtain ⟨test, rest, holds, form, -⟩ := changing_form (c := c) row mem ne
    rw [form, holds.2 shape, changing_of_vacant lane vacant]

/-- Settles O17: step 4 before the key check, step 7 after it. -/
theorem vacantAndBusyLanesAreRefused : Obligations.VacantAndBusyLanesAreRefused := by
  refine ⟨fun row s c i mem define read serves shape lane vacant =>
      ⟨_, exec_request (List.mem_append_left _ mem) serves, onlyAnswered_of_refuse_plain ?_⟩,
    fun row s c i l mem serves shape lane record key pending =>
      ⟨_, exec_request (List.mem_append_left _ (changing_mem_laneRows row mem)) serves, onlyAnswered_of_refuse ?_⟩, fun m => ?_⟩
  · exact action_vacant mem define read shape lane (by simpa using vacant)
  · obtain ⟨rest, action⟩ := action_keyed mem shape lane (t := s.takeRequest c) (by simpa using record)
    rw [action]
    unfold keyed
    rw [keyCheck_of_passes key]
    exact if_pos pending
  · cases m with
    | tripped cause n r clear => cases clear <;> simp [Mode.isPending]
    | _ => simp [Mode.isPending]

theorem keyed_of_refused {c : Ctx} {claiming : Bool} {l : Lane} {t u : State} {r : Result} (check : keyCheck c claiming l t = (some r, u))
    (rest : State → Answer × State) : keyed c claiming l t rest = (.refuse r, u) := by
  unfold keyed
  rw [check]

/-- Settles O18: the branches of the key check on an owned lane, and a CLAIM from a BARRED port. -/
theorem keyCheckRefuses : Obligations.KeyCheckRefuses := by
  refine ⟨fun row s c i l cl mem serves shape lane record owned => ?_, fun s c i l serves length lane record unowned barred => ?_⟩
  · obtain ⟨rest, action⟩ := action_keyed mem shape lane (t := s.takeRequest c) (by simpa using record)
    have barredThere := takeRequest_barred s c
    refine ⟨_, exec_request (List.mem_append_left _ (changing_mem_laneRows row mem)) serves, fun barred => ?_, fun free other => ?_,
      fun free own key => ?_⟩
    · refine onlyAnswered_of_refuse_plain (action.trans (keyed_of_refused ?_ rest))
      simp [keyCheck, owned, barred]
    · refine onlyAnswered_of_refuse_plain (action.trans (keyed_of_refused ?_ rest))
      simp [keyCheck, owned, free, other]
    · have struck : actionOf row c (s.takeRequest c) = (.refuse .key, (s.takeRequest c).modPort c.port Port.strike) := by
        refine action.trans (keyed_of_refused ?_ rest)
        simp [keyCheck, owned, free, own, key]
      unfold afterRequest
      rw [struck]
      refine onlyAnswered_take s c Port.strike _ .key [] ?_
      simp [Port.strike, Port.setSlot, free, Config.strikeLimit]
  · refine ⟨_, exec_request (row := .claim) (by decide) serves, onlyAnswered_of_refuse_plain ?_⟩
    obtain ⟨rest, action⟩ := action_keyed (row := .claim) (by decide) length lane (t := s.takeRequest c) (by simpa using record)
    refine action.trans (keyed_of_refused ?_ rest)
    simp [keyCheck, unowned, barred]

/-! ## What a refused request leaves (O19) -/

/-- Taken, with the strike count and the BARRED flag of its port written. -/
def marked (s : State) (c : Ctx) (n : Nat) (b : Bool) : State :=
  (s.takeRequest c).modPort c.port fun p => { p with strikes := n, barred := b }

theorem marked_same (s : State) (c : Ctx) : s.takeRequest c = marked s c (s.port c.port).strikes (s.port c.port).barred := by
  unfold marked State.takeRequest
  cases c.port <;> rfl

theorem marked_strike (s : State) (c : Ctx) : ∃ n b, (s.takeRequest c).modPort c.port Port.strike = marked s c n b := by
  unfold marked State.takeRequest
  cases c.port <;> exact ⟨_, _, rfl⟩

theorem marked_of_keyPassed {s u : State} {c : Ctx} (passed : Requests.KeyPassed c (s.takeRequest c) u) : ∃ n b, u = marked s c n b := by
  cases passed with
  | unowned => exact ⟨_, _, marked_same s c⟩
  | owner free =>
    unfold marked State.takeRequest
    cases c.port <;> exact ⟨_, _, rfl⟩

theorem onlyAnswered_marked (s : State) (c : Ctx) (n : Nat) (b : Bool) (r : Result) :
    OnlyAnswered s ((marked s c n b).finish c (.refuse r)) c { s.port c.port with strikes := n, barred := b } r [] :=
  onlyAnswered_take s c _ _ r [] rfl

theorem atMostOk_marked (s : State) (c : Ctx) (n : Nat) (b : Bool) : AtMostOk c (marked s c n b) := by
  refine atMostOk_modPort_of_slots (fun _ => rfl) (atMostOk_of_executing ?_)
  rw [State.takeRequest_port_self]
  exact Port.slots_setSlot_self _ _ _

/-- A request is refused, and of the part only the strikes of its port are reached, or it is accepted. -/
def Settled (s : State) (c : Ctx) (out : Answer × State) : Prop :=
  (∃ r n b, r ≠ .ok ∧ out = (.refuse r, marked s c n b)) ∨ (∀ r, out.1 ≠ .refuse r) ∧ AtMostOk c out.2

theorem settled_plain (s : State) (c : Ctx) {r : Result} (ne : r ≠ .ok) : Settled s c (.refuse r, s.takeRequest c) :=
  .inl ⟨r, _, _, ne, congrArg (Answer.refuse r, ·) (marked_same s c)⟩

theorem settled_of_decides {s u : State} {c : Ctx} {out : Answer × State} (mark : ∃ n b, u = marked s c n b) (decides : Decides c u out) :
    Settled s c out := by
  obtain ⟨n, b, rfl⟩ := mark
  obtain ⟨r, ne, rfl⟩ | ⟨accepts, keeps⟩ := decides
  · exact .inl ⟨r, n, b, ne, rfl⟩
  · exact .inr ⟨accepts, keeps (atMostOk_marked s c n b)⟩

theorem settled_of_outcome {s : State} {c : Ctx} {rest : LaneId → Lane → State → Answer × State} {out : Answer × State}
    (outcome : Requests.Outcome c (s.takeRequest c) rest out) (decides : ∀ i l u, Decides c u (rest i l u)) : Settled s c out := by
  cases outcome with
  | refused r ne => exact settled_plain s c ne
  | struck free =>
    obtain ⟨n, b, mark⟩ := marked_strike s c
    exact .inl ⟨.key, n, b, by decide, congrArg (Answer.refuse .key, ·) mark⟩
  | busy u passed => exact settled_of_decides (marked_of_keyPassed passed) (decides_refuse.2 (by decide))
  | goesOn i l u lane record free passed => exact settled_of_decides (marked_of_keyPassed passed) (decides i l u)

theorem define_settled (s : State) (c : Ctx) : Settled s c (defineAction c (s.takeRequest c)) := by
  unfold defineAction
  split
  · exact settled_plain s c (by decide)
  · split
    · exact settled_plain s c (by decide)
    · next i lane =>
      split
      · refine settled_of_decides ⟨_, _, marked_same s c⟩ ?_
        unfold defineVacant
        dsimp only
        split
        · split
          · simp
          · split
            · next r e => exact decides_refuse.2 fun ok => defineRefusal_ne_ok i _ _ (ok ▸ e)
            · exact decides_accepts nofun fun clean =>
                atMostOk_congr (fun p => State.port_pushControl _ i (.ident 1) p) (atMostOk_putLane clean)
        · simp
      · next l record =>
        exact settled_of_outcome (Requests.keyed_outcome (rest := fun _ _ s => (.refuse .badState, s)) lane record) fun _ _ _ =>
          decides_refuse.2 nofun

theorem row_settled {row : Instr} (s : State) (c : Ctx) (request : row ∈ laneRows ++ deviceRows) :
    Settled s c (actionOf row c (s.takeRequest c)) := by
  obtain lane | device := List.mem_append.1 request
  · obtain rfl | rfl | rfl | ⟨mem, ne⟩ := laneRow_kinds row lane
    · exact define_settled s c
    · show Settled s c (readLaneAction c _)
      unfold readLaneAction
      split
      · exact settled_plain s c (by decide)
      · split
        · exact settled_plain s c (by decide)
        · exact settled_of_decides ⟨_, _, marked_same s c⟩ decides_same
    · show Settled s c (readProfileAction c _)
      unfold readProfileAction
      split
      · exact settled_plain s c (by decide)
      · split
        · exact settled_plain s c (by decide)
        · split
          · exact settled_plain s c (by decide)
          · split
            · exact settled_plain s c (by decide)
            · exact settled_of_decides ⟨_, _, marked_same s c⟩ decides_same
    · obtain ⟨test, rest, -, form, decides⟩ := changing_form (c := c) row mem ne
      rw [form]
      exact settled_of_outcome (Requests.changing_outcome ..) decides
  · obtain ⟨test, rest, -, form, decides⟩ := device_form (c := c) row device
    rw [form]
    obtain ⟨r, ne, e⟩ | e := Requests.laneless_outcome c test (s.takeRequest c) (rest (s.takeRequest c))
    · rw [e]
      exact settled_plain s c ne
    · rw [e]
      exact settled_of_decides ⟨_, _, marked_same s c⟩ (decides _)

/-- A request of any row that is answered, and not with OK, reached nothing but its own answer and the strikes. -/
theorem onlyAnswered_of_settled {s : State} {c : Ctx} {act : Request.Action} (settled : Settled s c (act c (s.takeRequest c))) {x : Response}
    (slot : ((afterRequest act s c).port c.port).slots[c.slot] = .answered x) (ne : x.result ≠ .ok) :
    ∃ n b, OnlyAnswered s (afterRequest act s c) c { s.port c.port with strikes := n, barred := b } x.result [] := by
  unfold afterRequest at slot ⊢
  obtain ⟨r, n, b, -, e⟩ | ⟨accepts, ok⟩ := settled
  · rw [e] at slot ⊢
    have only := onlyAnswered_marked s c n b r
    rw [only.answered.slot] at slot
    cases slot
    exact ⟨n, b, only⟩
  · refine absurd ?_ ne
    revert slot accepts ok
    generalize act c (s.takeRequest c) = out
    obtain ⟨a, u⟩ := out
    intro slot accepts ok
    cases a with
    | refuse r => exact absurd rfl (accepts r)
    | ok payload => exact atMostOk_answer ok x slot
    | wait => exact ok x slot

/-- Settles O19: what a refusal comes to in every row, and the store's one rule. -/
theorem refusedRequestChangesNothingElse : Obligations.RefusedRequestChangesNothingElse := by
  refine ⟨fun row s t c x mem serves next slot ne => ?_, fun k c d => ⟨fun names none => if_pos ⟨names, none⟩, fun other => if_neg ?_⟩⟩
  · have settled : ∃ act, exec row s = .next (afterRequest act s c) ∧ Settled s c (act c (s.takeRequest c)) := by
      obtain rfl | request := List.mem_cons.1 mem
      · exact ⟨unknownAction, runEngine_of_serves serves _, settled_plain s c (by decide)⟩
      · exact ⟨actionOf row, exec_request request serves, row_settled s c request⟩
    obtain ⟨act, done, settled⟩ := settled
    obtain rfl : afterRequest act s c = t := Host.Outcome.next.inj (done.symm.trans next)
    obtain ⟨n, b, only⟩ := onlyAnswered_of_settled settled slot ne
    rw [only.answered.slot] at slot
    have is := Slot.answered.inj slot
    exact ⟨is ▸ rfl, is ▸ rfl, is ▸ rfl, n, b, only⟩
  · rintro ⟨names, none⟩
    obtain ne | some := other
    · exact ne names
    · exact some none

end Sys2Proof.Checks
end

section
/-! PROOF. The requests that write one lane's record with no structure check: SET_POINT, SET_RATIO, START, STOP, HOLD, RESUME, RUN_PROFILE,
PAUSE_PROFILE, FLUSH_PROFILE, PIN_LANE, CLAIM, RELEASE (O20 to O22, O25, O26). -/

namespace Sys2Proof.LaneRequests

open Sys2Proof.Machine Sys2Proof.Safety Sys2Proof.LaneFields Sys2Proof.Checks Sys2Proof.Records

/-- A changing request that passes steps 2 to 7 comes to its own steps. -/
theorem action_of_reaches {act : Request.Action} {s : State} {c : Ctx} {i : LaneId} {l : Lane} {test claiming : Bool}
    {rest : LaneId → Lane → State → Answer × State} (form : ∀ t, act c t = changing c test claiming t rest) (shape : test = true)
    (reaches : Reaches s c i l claiming) : act c (s.takeRequest c) = rest i l (keyState s c l) := by
  rw [form, shape, changing_of_reaches reaches]

theorem afterKey_of_unowned {l : Lane} (unowned : l.claim = none) (p : Port) : afterKey l p = p := by
  unfold afterKey
  rw [unowned]
  exact if_neg nofun

/-! ## SET_POINT and SET_RATIO (O20) -/

theorem ruOk_eq_false {x : Int} (out : ¬ inRange x) : ruOk x = false := Bool.eq_false_iff.2 fun h => out (ruOk_iff.1 h)

/-- The link ranges of a SET_RATIO payload, as the spec writes them (R75). -/
theorem ratioTrim_iff {n : Nat} {x : Int} : (ratioOk n && trimOk x) = true ↔ n ≤ 16383 ∧ -3000 ≤ x ∧ x ≤ 3000 := by
  simp [ratioOk, trimOk]

/-- Settles O20: by the ranges of the two requests. -/
theorem setPointAndRatioWriteValues : Obligations.SetPointAndRatioWriteValues := by
  refine ⟨fun s c i l serves length reaches => ?_, fun s c i l serves shape reaches => ?_⟩
  · have action := action_of_reaches (act := setPointAction) (fun _ => rfl) (lengthIs_iff.2 length) reaches
    refine ⟨_, exec_request (by decide) serves, fun fits => laneDone_of_ok (action.trans (if_neg ?_)),
      fun out => onlyAnswered_of_refuse (action.trans (if_pos ?_))⟩
    · rw [ruOk_iff.2 fits]
      exact nofun
    · rw [ruOk_eq_false out]
      rfl
  · have action := action_of_reaches (act := setRatioAction) (fun _ => rfl) (ratioShape_iff.2 shape) reaches
    refine ⟨_, exec_request (by decide) serves, fun fixed => ?_, fun k follow out => ?_, fun k follow ratio low high => ?_⟩
    · simp only [fixed] at action
      exact onlyAnswered_of_refuse action
    · simp only [follow] at action
      refine onlyAnswered_of_refuse (action.trans (if_pos ?_))
      rw [Bool.eq_false_iff.2 fun h => out (ratioTrim_iff.1 h)]
      rfl
    · simp only [follow] at action
      refine laneDone_of_ok (action.trans (if_neg ?_))
      rw [ratioTrim_iff.2 ⟨ratio, low, high⟩]
      exact nofun

/-! ## START (O21) -/

/-- Settles O21: the checks in their order, then the profile by whether it is asked for and loaded. -/
theorem startEntersActive : Obligations.StartEntersActive := by
  intro s c i l serves length reaches
  have action := action_of_reaches (act := startAction) (fun _ => rfl) (lengthIs_iff.2 length) reaches
  rw [(keyState_lines s c l).haltLevel] at action
  refine ⟨_, exec_request (by decide) serves, fun mode => onlyAnswered_of_refuse (action.trans (if_pos mode)), fun standby halted => ?_,
    fun standby running high => ?_, fun standby running low unseen => ?_, fun v standby running low view trip => ?_,
    fun v standby running view ready => ?_⟩
  · rw [if_neg (not_not_intro standby)] at action
    exact onlyAnswered_of_refuse (action.trans (if_pos halted))
  · rw [if_neg (not_not_intro standby), if_neg (by rw [running]; exact nofun)] at action
    exact onlyAnswered_of_refuse (action.trans (if_pos high))
  · rw [if_neg (not_not_intro standby), if_neg (by rw [running]; exact nofun), if_neg (Nat.not_lt.2 low)] at action
    simp only [unseen] at action
    exact onlyAnswered_of_refuse action
  · rw [if_neg (not_not_intro standby), if_neg (by rw [running]; exact nofun), if_neg (Nat.not_lt.2 low)] at action
    simp only [view] at action
    exact onlyAnswered_of_refuse (action.trans (if_pos trip))
  · have starts : (byteAt c.req.payload 0).toNat ≤ 1 → startAction c (s.takeRequest c)
        = (.ok [], (keyState s c l).putLane i (some (l.start ((byteAt c.req.payload 0).toNat == 1)))) := fun low => by
      rw [action, if_neg (not_not_intro standby), if_neg (by rw [running]; exact nofun), if_neg (Nat.not_lt.2 low)]
      simp only [view]
      exact if_neg ready
    refine ⟨fun idle => ?_, fun g rest asked loaded => ?_⟩
    · have record : l.start ((byteAt c.req.payload 0).toNat == 1) = { l with mode := .active none .idle, track := .blending } := by
        obtain zero | ⟨one, empty⟩ := idle
        · rw [zero]
          rfl
        · simp [one, Lane.start, Lane.firstRun, empty]
      rw [record] at starts
      exact laneDone_of_ok (starts (by omega))
    · have record : l.start ((byteAt c.req.payload 0).toNat == 1)
          = { l with mode := .active none (.running l.output g.started), track := .blending } := by
        simp [asked, Lane.start, Lane.firstRun, loaded]
      rw [record] at starts
      exact laneDone_of_ok (starts (Nat.le_of_eq asked))

/-! ## STOP, HOLD and RESUME (O22) -/

/-- Settles O22: by the lane state. -/
theorem stopHoldResume : Obligations.StopHoldResume := by
  refine ⟨fun s c i l serves length reaches => ?_, fun s c i l length reaches => ⟨fun serves => ?_, fun serves => ?_⟩⟩
  · have action := action_of_reaches (act := stopAction) (fun _ => rfl) (lengthIs_iff.2 length) reaches
    refine ⟨_, exec_request (by decide) serves, fun h r mode => ?_, fun rests => ?_, fun k n b m mode => ?_⟩
    · simp only [mode] at action
      exact laneDone_of_ok action
    · obtain ⟨k, mode⟩ | mode := rests
      all_goals
        simp only [mode] at action
        exact laneDone_of_same reaches.record action
    · simp only [mode] at action
      exact onlyAnswered_of_refuse action
  · have action := action_of_reaches (act := holdAction) (fun _ => rfl) (lengthIs_iff.2 length) reaches
    refine ⟨_, exec_request (by decide) serves, fun v p mode => ?_, fun r mode quiet => ?_, fun h r mode => ?_, fun still => ?_⟩
    · simp only [mode, Lane.takeHold] at action
      exact laneDone_of_ok action
    · simp only [mode, Lane.takeHold] at action
      cases r with
      | running v p => exact absurd rfl (quiet v p)
      | _ => exact laneDone_of_ok action
    · have same : l.takeHold = l := by simp only [Lane.takeHold, mode]
      simp only [mode, same] at action
      exact laneDone_of_ok action
    · cases mode : l.mode with
      | active h r => exact absurd mode (still h r)
      | _ =>
        simp only [mode] at action
        exact onlyAnswered_of_refuse action
  · have action := action_of_reaches (act := resumeAction) (fun _ => rfl) (lengthIs_iff.2 length) reaches
    refine ⟨_, exec_request (by decide) serves, fun h r mode => ?_, fun r mode => ?_, fun still => ?_⟩
    · simp only [mode] at action
      exact laneDone_of_ok action
    · simp only [mode] at action
      exact laneDone_of_same reaches.record action
    · cases mode : l.mode with
      | active h r => exact absurd mode (still h r)
      | _ =>
        simp only [mode] at action
        exact onlyAnswered_of_refuse action

/-! ## RUN_PROFILE, PAUSE_PROFILE and FLUSH_PROFILE (O25) -/

/-- A head starts with its accel when it is from 1 to its peak, and else with its peak (R61). -/
theorem started_ramp {g : Segment} {e : Int} {peak accel : Nat} (body : g.body = .ramp e peak accel) :
    g.started = .rate (if 1 ≤ accel ∧ accel ≤ peak then accel else peak) := by
  unfold Segment.started
  rw [body]

/-- Settles O25: by the run state, and the start of a head. -/
theorem profileRunRequests : Obligations.ProfileRunRequests := by
  refine ⟨fun s c i l length reaches => ⟨fun serves => ?_, fun serves => ?_, fun serves => ?_⟩,
    fun g => ⟨fun e peak accel body low high => ?_, fun e peak accel body out => ?_, fun n body => ?_⟩⟩
  · have action := action_of_reaches (act := runProfileAction) (fun _ => rfl) (lengthIs_iff.2 length) reaches
    refine ⟨_, exec_request (by decide) serves, fun bad => ?_, fun g rest mode loaded => ?_, fun v p mode loaded => ?_,
      fun v p mode loaded => ?_⟩
    · refine onlyAnswered_of_refuse (action.trans ?_)
      cases mode : l.mode with
      | active h r =>
        cases h with
        | some h => rfl
        | none =>
          obtain off | empty := bad
          · exact absurd mode (off r)
          · exact if_pos empty
      | _ => rfl
    · have first : l.firstRun = .running l.output g.started := by
        unfold Lane.firstRun
        rw [loaded]
      simp only [mode, first] at action
      exact laneDone_of_ok (action.trans (if_neg (by rw [loaded]; exact nofun)))
    · simp only [mode] at action
      exact laneDone_of_ok (action.trans (if_neg loaded))
    · simp only [mode] at action
      exact laneDone_of_same reaches.record (action.trans (if_neg loaded))
  · have action := action_of_reaches (act := pauseProfileAction) (fun _ => rfl) (lengthIs_iff.2 length) reaches
    refine ⟨_, exec_request (by decide) serves, fun h v p mode => ?_, fun h v p mode => ?_, fun off => ?_⟩
    · simp only [mode] at action
      exact laneDone_of_ok action
    · simp only [mode] at action
      exact laneDone_of_same reaches.record action
    · refine onlyAnswered_of_refuse (action.trans ?_)
      cases mode : l.mode with
      | active h r =>
        cases r with
        | idle => rfl
        | running v p => exact absurd mode (off h v p).1
        | paused v p => exact absurd mode (off h v p).2
      | _ => rfl
  · have action := action_of_reaches (act := flushProfileAction) (fun _ => rfl) (lengthIs_iff.2 length) reaches
    refine ⟨_, exec_request (by decide) serves, fun h v p moving => ?_, fun off => ?_⟩
    · have flushed : l.flush = { l with mode := .active h .idle, track := .blending, queue := [] } := by
        unfold Lane.flush
        obtain mode | mode := moving <;> rw [mode]
      rw [flushed] at action
      exact laneDone_of_ok action
    · have flushed : l.flush = { l with queue := [] } := by
        unfold Lane.flush
        cases mode : l.mode with
        | active h r =>
          cases r with
          | idle => simp only [← mode]
          | running v p => exact absurd mode (off h v p).1
          | paused v p => exact absurd mode (off h v p).2
        | _ => rfl
      rw [flushed] at action
      exact laneDone_of_ok action
  · rw [started_ramp body, if_pos ⟨low, high⟩]
  · rw [started_ramp body, if_neg (by omega)]
  · unfold Segment.started
    rw [body]

/-! ## PIN_LANE, CLAIM and RELEASE (O26) -/

/-- Settles O26: PIN_LANE and RELEASE write one field; CLAIM acts by the claim it finds. -/
theorem pinClaimRelease : Obligations.PinClaimRelease := by
  refine ⟨fun s c i l serves length reaches => ?_, fun s c i l length => ⟨fun serves reaches => ?_, fun serves reaches => ?_⟩⟩
  · have action := action_of_reaches (act := pinAction) (fun _ => rfl) (lengthIs_iff.2 length) reaches
    exact ⟨_, exec_request (by decide) serves, laneDone_of_ok action⟩
  · have action := action_of_reaches (act := claimAction) (fun _ => rfl) (lengthIs_iff.2 length) reaches
    refine ⟨_, exec_request (by decide) serves, fun unowned key => ?_, fun unowned zero => ?_, fun owned => ?_⟩
    · simp only [unowned] at action
      exact laneDone_of_ok (action.trans (if_neg key))
    · simp only [unowned] at action
      have refused := onlyAnswered_of_refuse (action.trans (if_pos zero))
      rwa [afterKey_of_unowned unowned] at refused
    · obtain ⟨cl, owner⟩ := Option.ne_none_iff_exists'.1 owned
      simp only [owner] at action
      exact laneDone_of_same reaches.record action
  · have action := action_of_reaches (act := releaseAction) (fun _ => rfl) (lengthIs_iff.2 length) reaches
    exact ⟨_, exec_request (by decide) serves, laneDone_of_ok action⟩

end Sys2Proof.LaneRequests
end

section
/-! PROOF. What the fields of payloads say, and the requests SET_SOURCE and APPEND_SEGMENT (O23, O24). -/

namespace Sys2Proof.Fields

open Sys2Proof.Machine Sys2Proof.Safety Sys2Proof.Records Sys2Proof.Chains

/-! ## Two-byte fields (R192) -/

theorem toNat_halves (w : Half) : (w.extractLsb' 8 8).toNat * 256 + (w.extractLsb' 0 8).toNat = w.toNat := by
  have lt := w.isLt
  rw [BitVec.extractLsb'_toNat, BitVec.extractLsb'_toNat, Nat.shiftRight_eq_div_pow, Nat.shiftRight_eq_div_pow]
  omega

/-- The two bytes of a field are read back (R192). -/
theorem u16At_of_bytes {bs : List Byte} {k : Nat} {w : Half} (high : byteAt bs k = w.extractLsb' 8 8)
    (low : byteAt bs (k + 1) = w.extractLsb' 0 8) : u16At bs k = w.toNat := by
  unfold u16At
  rw [high, low, toNat_halves]

theorem s16At_of_bytes {bs : List Byte} {k : Nat} {w : Half} (high : byteAt bs k = w.extractLsb' 8 8)
    (low : byteAt bs (k + 1) = w.extractLsb' 0 8) : s16At bs k = w.toInt := by
  unfold s16At
  rw [u16At_of_bytes high low, BitVec.ofNat_toNat, BitVec.setWidth_eq]

theorem toInt_ofInt_of_inRange {x : Int} (range : inRange x) : (BitVec.ofInt 16 x).toInt = x := by
  obtain ⟨low, high⟩ := range
  rw [BitVec.toInt_ofInt]
  exact Int.bmod_eq_of_le (by omega) (by omega)

theorem toNat_ofNat_half {n : Nat} (lt : n < 65536) : (BitVec.ofNat 16 n).toNat = n := by
  rw [BitVec.toNat_ofNat, Nat.mod_eq_of_lt lt]

theorem toNat_byteOf_bool (b : Bool) : (byteOf b.toNat).toNat = b.toNat := by cases b <;> rfl

/-! ## The source and the segment of a payload (section 10.4) -/

theorem basis_byte_iff {b : Byte} {basis : Basis} : basisOf b.toNat = some basis ↔ b = match basis with
    | .output => 0#8
    | .feedback => 1#8 := by
  revert b
  cases basis <;> decide +kernel

/-- The follow fields of a payload are those of a link in range (R75). -/
theorem followLinkAt_iff {pl : List Byte} {k : Nat} {link : FollowLink} : followLinkAt pl k = some link ↔
    LinkOk link ∧ (byteAt pl k).toNat = link.parent.val ∧ u16At pl (k + 1) = link.ratio ∧ s16At pl (k + 3) = link.trim
      ∧ byteAt pl (k + 5) = match link.basis with
        | .output => 0#8
        | .feedback => 1#8 := by
  unfold followLinkAt
  constructor
  · intro h
    split at h
    · next p b lane basis =>
      split at h
      · next ok =>
        cases h
        exact ⟨by simpa [ratioOk, trimOk, LinkOk] using ok, laneOf_eq_some_iff.1 lane, rfl, rfl, basis_byte_iff.1 basis⟩
      · cases h
    · cases h
  · rintro ⟨⟨ratio, low, high⟩, parent, ratioAt, trimAt, basis⟩
    rw [laneOf_eq_some_iff.2 parent, basis_byte_iff.2 basis, ratioAt, trimAt]
    simp [ratioOk, trimOk, ratio, low, high]

theorem byte_eq_iff {b : Byte} {n : Nat} (lt : n < 256) : b.toNat = n ↔ b = BitVec.ofNat 8 n := by
  rw [← BitVec.toNat_inj, BitVec.toNat_ofNat, Nat.mod_eq_of_lt lt]

theorem sourceAt_iff {kind : Byte} {pl : List Byte} {k : Nat} {src : Source} :
    sourceAt kind pl k = some src ↔ sourceField kind pl k src := by
  unfold sourceAt sourceField
  constructor
  · intro h
    split at h
    · next zero =>
      cases h
      exact .inl ⟨(byte_eq_iff (by decide)).1 zero, rfl⟩
    · next one =>
      obtain ⟨link, found, rfl⟩ := Option.map_eq_some_iff.1 h
      exact .inr ⟨(byte_eq_iff (by decide)).1 one, link, rfl, followLinkAt_iff.1 found⟩
    · cases h
  · rintro (⟨rfl, rfl⟩ | ⟨rfl, link, rfl, fields⟩)
    · rfl
    · show (followLinkAt pl k).map Source.follow = _
      rw [followLinkAt_iff.2 fields]
      rfl

theorem sourceAt_eq_none {kind : Byte} {pl : List Byte} {k : Nat} (bad : ∀ src, ¬ sourceField kind pl k src) : sourceAt kind pl k = none :=
  Option.eq_none_iff_forall_ne_some.2 fun src h => bad src (sourceAt_iff.1 h)

theorem bool_of_le_one {n : Nat} (le : n ≤ 1) : n = (n == 1).toNat := by
  obtain rfl | rfl : n = 0 ∨ n = 1 := by omega
  all_goals rfl

/-- The segment of a payload, with its fields in range (R51, R56). -/
theorem segmentOf_iff {pl : List Byte} {g : Segment} : segmentOf pl = some g ↔ segmentField pl g := by
  have tail : ∀ {b : SegBody}, (if decide ((byteAt pl 9).toNat ≤ 1) then
      some ({ body := b, notify := (byteAt pl 9).toNat == 1, tag := byteAt pl 10 } : Segment) else none) = some g ↔
      (byteAt pl 9).toNat = g.notify.toNat ∧ g.tag = byteAt pl 10 ∧ g.body = b := by
    intro b
    constructor
    · intro h
      split at h
      · next le =>
        cases h
        exact ⟨bool_of_le_one (of_decide_eq_true le), rfl, rfl⟩
      · cases h
    · rintro ⟨notify, tag, body⟩
      obtain ⟨body', notify', tag'⟩ := g
      cases body
      cases tag
      dsimp only at notify
      rw [notify]
      cases notify' <;> rfl
  constructor
  · intro h
    have ok := segmentOk_of_segmentOf h
    unfold segmentOf at h
    dsimp only at h
    split at h
    · next zero =>
      split at h
      · obtain ⟨notify, tag, body⟩ := tail.1 h
        exact ⟨notify, tag, ok, .inl ⟨(byte_eq_iff (by decide)).1 zero, body⟩⟩
      · cases h
    · next one =>
      split at h
      · obtain ⟨notify, tag, body⟩ := tail.1 h
        exact ⟨notify, tag, ok, .inr ⟨(byte_eq_iff (by decide)).1 one, body⟩⟩
      · cases h
    · cases h
  · rintro ⟨notify, tag', ok, ⟨zero, body⟩ | ⟨one, body⟩⟩
    · unfold SegmentOk at ok
      rw [body] at ok
      obtain ⟨range, low, high, accel⟩ := ok
      unfold segmentOf
      rw [zero]
      dsimp only
      refine (if_pos ?_).trans (tail.2 ⟨notify, tag', body⟩)
      simp [ruOk_iff.2 range, low, high, accel]
    · unfold SegmentOk at ok
      rw [body] at ok
      unfold segmentOf
      rw [one]
      dsimp only
      exact (if_pos (decide_eq_true ok.1)).trans (tail.2 ⟨notify, tag', body⟩)

/-! ## The structure checks read the records alone (R10, R82) -/

section
variable {s t : State}

theorem parentRefusal_congr (same : ∀ j, t.lane j = s.lane j) (cycle : Bool) (parent : LaneId) (height : Nat) :
    t.parentRefusal cycle parent height = s.parentRefusal cycle parent height := by
  unfold State.parentRefusal
  rw [same, depth_congr same]

theorem sourceRefusal_congr (same : ∀ j, t.lane j = s.lane j) (i : LaneId) (src : Source) :
    t.sourceRefusal i src = s.sourceRefusal i src := by
  unfold State.sourceRefusal
  cases src with
  | fixed => rfl
  | follow k =>
    dsimp only
    rw [under_congr same, height_congr same, parentRefusal_congr same]

theorem parentRefusal_cycle (parent : LaneId) (height : Nat) : s.parentRefusal true parent height = some .cycle := rfl

theorem parentRefusal_vacant {parent : LaneId} (vacant : s.lane parent = none) (height : Nat) :
    s.parentRefusal false parent height = some .noLane := by
  unfold State.parentRefusal
  rw [vacant]
  rfl

theorem parentRefusal_defining {parent : LaneId} {p : Lane} {m : Marker} (record : s.lane parent = some p) (mode : p.mode = .defining m)
    (height : Nat) : s.parentRefusal false parent height = some .badState := by
  unfold State.parentRefusal
  rw [record]
  simp only [mode]
  rfl

theorem parentRefusal_service {parent : LaneId} {p : Lane} (record : s.lane parent = some p) (service : ∀ m, p.mode ≠ .defining m)
    (height : Nat) : s.parentRefusal false parent height = if 4 < s.depth parent + 1 + height then some .depth else none := by
  unfold State.parentRefusal
  rw [record]
  dsimp only
  cases mode : p.mode with
  | defining m => exact absurd mode (service m)
  | _ => rfl

/-! ## The derived values (R78) -/

theorem followers_nodup (i : LaneId) : (s.followers i).Nodup := allLanes_nodup.filter _

theorem derivedValues (tree : TreeLaw s) : DerivedValues s where
  depthFixed j l record fixed := depth_of_no_parent (by rw [parentOf_of_lane record, fixed]; rfl)
  depthFollow j l k record follow := depth_parent tree (by rw [parentOf_of_lane record, follow]; rfl)
  count i := ⟨s.followers i, followers_nodup i, fun j => mem_followers.trans parentOf_eq_some_iff, rfl⟩
  heightLeaf i leaf := by
    have none : s.followers i = [] := List.eq_nil_iff_forall_not_mem.2 fun j mem => leaf j (parentOf_eq_some_iff.1 (mem_followers.1 mem))
    rw [height_eq tree, none]
    rfl
  height i follower := by
    have taller : ∀ j, follows s j i → s.height j + 1 ≤ s.height i := fun j h => height_lt_of_parent tree (parentOf_eq_some_iff.2 h)
    refine ⟨taller, ?_⟩
    obtain ⟨j, follows⟩ := follower
    obtain zero | ⟨k, mem, attained⟩ := foldl_max_attained s.height (s.followers i) 0
    · have above := taller j follows
      rw [height_eq tree i, zero] at above
      exact absurd above (Nat.not_succ_le_zero _)
    · exact ⟨k, parentOf_eq_some_iff.1 (mem_followers.1 mem), (height_eq tree i).trans attained⟩
  under i j := by
    rw [under_iff tree]
    simp only [parentOf_eq_some_iff]

end

end Sys2Proof.Fields

namespace Sys2Proof.LaneRequests

open Sys2Proof.Machine Sys2Proof.Safety Sys2Proof.LaneFields Sys2Proof.Checks Sys2Proof.Records Sys2Proof.Fields

/-! ## SET_SOURCE (O23) -/

theorem cascadeUnresolved_eq_false {l : Lane} (other : ∀ n m, l.mode ≠ .tripped .cascade n false m) : l.mode.cascadeUnresolved = false :=
  Bool.eq_false_iff.2 fun h => by
    obtain ⟨n, m, mode⟩ := cascadeUnresolved_iff.1 h
    exact other n m mode

/-- A switch of an ACTIVE lane (R37, R43). -/
theorem setSource_switch {l : Lane} {src : Source} {h : Option Int} {r : Run} (mode : l.mode = .active h r)
    (parent : src.link.map (·.parent) ≠ l.source.link.map (·.parent)) : l.setSource src = { l with source := src, track := .blending } := by
  unfold Lane.setSource
  rw [if_pos ⟨by rw [mode]; rfl, parent⟩]

/-- No switch, or of a lane that is not ACTIVE. -/
theorem setSource_same {l : Lane} {src : Source}
    (quiet : (∀ h r, l.mode ≠ .active h r) ∨ src.link.map (·.parent) = l.source.link.map (·.parent)) :
    l.setSource src = { l with source := src } := by
  unfold Lane.setSource
  rw [if_neg]
  rintro ⟨active, parent⟩
  obtain still | same := quiet
  · cases mode : l.mode with
    | active h r => exact still h r mode
    | _ =>
      rw [mode] at active
      cases active
  · exact parent same

/-- Settles O23: by the source that the payload names, then by the structure checks in their order. -/
theorem setSourceSwitchesSource : Obligations.SetSourceSwitchesSource := by
  refine ⟨fun s c i l serves length reaches => ?_, fun s c i l k serves length reaches settled kind lane ratio trim basis => ?_,
    ⟨rfl, rfl⟩, fun s => derivedValues⟩
  · have action := action_of_reaches (act := setSourceAction) (fun _ => rfl) (lengthIs_iff.2 length) reaches
    refine ⟨_, exec_request (by decide) serves, fun n m mode => onlyAnswered_of_refuse (action.trans (if_pos ?_)),
      fun settled zero => ?_, fun settled high => ?_, fun settled one bad => ?_⟩
    · exact cascadeUnresolved_iff.2 ⟨n, m, mode⟩
    · have fixed : sourceAt (byteAt c.req.payload 0) c.req.payload 1 = some .fixed :=
        sourceAt_iff.2 (.inl ⟨(byte_eq_iff (by decide)).1 zero, rfl⟩)
      rw [cascadeUnresolved_eq_false settled, fixed] at action
      refine ⟨fun h r mode k follow => ?_, fun quiet => ?_⟩
      · refine laneDone_of_ok (action.trans ?_)
        rw [← setSource_switch mode (src := .fixed) (by rw [follow]; exact nofun)]
        rfl
      · refine laneDone_of_ok (action.trans ?_)
        rw [← setSource_same (src := .fixed) (quiet.imp_right fun fixed => by rw [fixed])]
        rfl
    · have none : sourceAt (byteAt c.req.payload 0) c.req.payload 1 = none := by
        refine sourceAt_eq_none ?_
        rintro src (⟨kind, -⟩ | ⟨kind, -⟩) <;> exact absurd high (by rw [kind]; decide)
      rw [cascadeUnresolved_eq_false settled, none] at action
      exact onlyAnswered_of_refuse action
    · have none : sourceAt (byteAt c.req.payload 0) c.req.payload 1 = none := by
        refine sourceAt_eq_none ?_
        rintro src (⟨kind, -⟩ | ⟨-, link, -, -, parent, -, -, basis⟩)
        · exact absurd one (by rw [kind]; decide)
        · obtain above | above := bad
          · have := link.parent.isLt
            omega
          · rw [basis] at above
            revert above
            cases link.basis <;> decide
      rw [cascadeUnresolved_eq_false settled, none] at action
      exact onlyAnswered_of_refuse action
  · have action := action_of_reaches (act := setSourceAction) (fun _ => rfl) (lengthIs_iff.2 length) reaches
    rw [cascadeUnresolved_eq_false settled] at action
    have kind : byteAt c.req.payload 0 = 1#8 := (byte_eq_iff (by decide)).1 kind
    have basis : byteAt c.req.payload 6 = match k.basis with
        | .output => 0#8
        | .feedback => 1#8 := by
      cases b : k.basis <;> rw [b] at basis <;> exact (byte_eq_iff (by decide)).1 basis
    have found : LinkOk k → sourceAt (byteAt c.req.payload 0) c.req.payload 1 = some (.follow k) := fun ok =>
      sourceAt_iff.2 (.inr ⟨kind, k, rfl, ok, laneOf_eq_some_iff.1 lane, ratio, trim, basis⟩)
    have checked : LinkOk k → setSourceAction c (s.takeRequest c) = match s.parentRefusal (s.under i k.parent) k.parent (s.height i) with
        | some r => (.refuse r, keyState s c l)
        | none => (.ok [], (keyState s c l).putLane i (some (l.setSource (.follow k)))) := fun ok => by
      rw [action, found ok]
      dsimp only
      rw [sourceRefusal_congr (keyState_lane s c l)]
      rfl
    refine ⟨_, exec_request (by decide) serves, fun bad => ?_, fun ok cycle => ?_, fun ok clear vacant => ?_, fun p m ok clear record mode => ?_,
      fun p ok clear record service deep => ?_, fun p ok clear record service fits => ?_⟩
    · have none : sourceAt (byteAt c.req.payload 0) c.req.payload 1 = none := by
        refine sourceAt_eq_none ?_
        rintro src (⟨zero, -⟩ | ⟨-, link, -, ok, -, ratio', trim', -⟩)
        · rw [kind] at zero
          contradiction
        · unfold LinkOk at ok bad
          rw [← ratio', ← trim', ratio, trim] at ok
          exact bad ok
      rw [none] at action
      exact onlyAnswered_of_refuse action
    · refine onlyAnswered_of_refuse ((checked ok).trans ?_)
      rw [cycle, parentRefusal_cycle]
    · refine onlyAnswered_of_refuse ((checked ok).trans ?_)
      rw [clear, parentRefusal_vacant vacant]
    · refine onlyAnswered_of_refuse ((checked ok).trans ?_)
      rw [clear, parentRefusal_defining record mode]
    · refine onlyAnswered_of_refuse ((checked ok).trans ?_)
      rw [clear, parentRefusal_service record service, if_pos deep]
    · have accepts : setSourceAction c (s.takeRequest c) = (.ok [], (keyState s c l).putLane i (some (l.setSource (.follow k)))) := by
        rw [checked ok, clear, parentRefusal_service record service, if_neg (Nat.not_lt.2 fits)]
      refine ⟨fun h r mode other => ?_, fun quiet => ?_⟩
      · rw [setSource_switch mode] at accepts
        · exact laneDone_of_ok accepts
        · cases source : l.source with
          | fixed => exact nofun
          | follow k' => exact fun e => other k' source (Option.some.inj e).symm
      · rw [setSource_same] at accepts
        · exact laneDone_of_ok accepts
        · exact quiet.imp_right fun ⟨k', source, same⟩ => by
            rw [source]
            exact congrArg some same.symm

/-! ## APPEND_SEGMENT (O24) -/

/-- Settles O24: the checks in their order, then the payloads of the two kinds by the field rules. -/
theorem appendTakesPoolSlot : Obligations.AppendTakesPoolSlot := by
  refine ⟨fun s c i l serves length reaches => ?_, fun e peak accel n b tag x y z => ⟨fun range low high max => ?_, fun low high => ?_⟩,
    fun pl g => segmentOf_iff, rfl, fun l => rfl⟩
  · have action := action_of_reaches (act := appendAction) (fun _ => rfl) (lengthIs_iff.2 length) reaches
    refine ⟨_, exec_request (by decide) serves, fun rest still => onlyAnswered_of_refuse (action.trans ?_), fun open' => ?_⟩
    · cases mode : l.mode with
      | standby => exact absurd mode rest
      | active h r => exact absurd mode (still h r)
      | _ => rfl
    · have checked : appendAction c (s.takeRequest c) = match segmentOf c.req.payload with
          | none => (.refuse .badField, keyState s c l)
          | some g =>
            if Config.queueMax ≤ l.queue.length then (.refuse .queueFull, keyState s c l)
            else if (keyState s c l).poolFree = 0 then (.refuse .poolFull, keyState s c l)
            else (.ok [], (keyState s c l).putLane i (some { l with queue := l.queue ++ [g] })) := by
        rw [action]
        obtain mode | ⟨h, r, mode⟩ := open' <;> rw [mode] <;> rfl
      refine ⟨fun bad => ?_, fun g found => ⟨fun full => ?_, fun room empty => ?_, fun room free => ?_⟩⟩
      · rw [bad] at checked
        exact onlyAnswered_of_refuse checked
      · rw [found] at checked
        exact onlyAnswered_of_refuse (checked.trans (if_pos full))
      · rw [found] at checked
        refine onlyAnswered_of_refuse (checked.trans ((if_neg (Nat.not_le.2 room)).trans (if_pos ?_)))
        rw [keyState_pool, empty]
      · rw [found] at checked
        have accepts := checked.trans ((if_neg (Nat.not_le.2 room)).trans (if_neg (by rw [keyState_pool]; omega)))
        have done := laneDone_of_ok accepts
        refine ⟨done, ?_⟩
        have pool : (afterRequest appendAction s c).poolFree = _ := done.writes.pool
        rw [reaches.record] at pool
        simp only [queueLen, List.length_append, List.length_singleton] at pool
        show (afterRequest appendAction s c).poolFree + 1 = s.poolFree
        omega
  · refine segmentOf_iff.2 ⟨toNat_byteOf_bool b, rfl, ⟨range, low, high, max⟩, .inl ⟨rfl, ?_⟩⟩
    have target : s16At (0x00#8 :: (s16Bytes e ++ u16Bytes peak ++ u16Bytes accel ++ halfBytes x ++ [byteOf b.toNat, tag])) 1 = e :=
      (s16At_of_bytes (w := BitVec.ofInt 16 e) rfl rfl).trans (toInt_ofInt_of_inRange range)
    have rate : u16At (0x00#8 :: (s16Bytes e ++ u16Bytes peak ++ u16Bytes accel ++ halfBytes x ++ [byteOf b.toNat, tag])) 3 = peak :=
      (u16At_of_bytes (w := BitVec.ofNat 16 peak) rfl rfl).trans (toNat_ofNat_half (by omega))
    have step : u16At (0x00#8 :: (s16Bytes e ++ u16Bytes peak ++ u16Bytes accel ++ halfBytes x ++ [byteOf b.toNat, tag])) 5 = accel :=
      (u16At_of_bytes (w := BitVec.ofNat 16 accel) rfl rfl).trans (toNat_ofNat_half (by omega))
    rw [target, rate, step]
  · refine segmentOf_iff.2 ⟨toNat_byteOf_bool b, rfl, ⟨low, high⟩, .inr ⟨rfl, ?_⟩⟩
    have count : u16At (0x01#8 :: (halfBytes x ++ halfBytes y ++ halfBytes z ++ u16Bytes n ++ [byteOf b.toNat, tag])) 7 = n :=
      (u16At_of_bytes (w := BitVec.ofNat 16 n) rfl rfl).trans (toNat_ofNat_half (by omega))
    rw [count]

end Sys2Proof.LaneRequests
end

section
/-! PROOF. The requests of the lane table, AMEND_LANE, RETIRE_LANE and DEFINE_LANE, and CLEAR_TRIP (O27 to O30). -/

namespace Sys2Proof.Fields

open Sys2Proof.Machine Sys2Proof.Safety Sys2Proof.Records Sys2Proof.LaneFields

/-! ## Configurations (R3, section 10.4) -/

theorem periodOf_iff {n : Nat} {p : Fin 6} : periodOf n = some p ↔ p.val = n := by
  unfold periodOf
  split
  · rw [Option.some_inj, ← Fin.val_inj]
    exact eq_comm
  · have := p.isLt
    exact ⟨nofun, fun e => by omega⟩

theorem fallbackOf_iff {options : Byte} {f : Fallback} : fallbackOf (options.toNat / 4 % 4) = some f ↔ fallbackField options f := by
  unfold fallbackField fallbackOf
  have lt : options.toNat / 4 % 4 < 4 := Nat.mod_lt _ (by decide)
  generalize options.toNat / 4 % 4 = n at lt
  interval_cases n <;> cases f <;> simp

theorem cfgOk_iff {cfg : LaneCfg} : cfgOk cfg = true ↔ CfgRanges cfg := by
  simp only [cfgOk, CfgRanges, Bool.and_eq_true, decide_eq_true_eq, ruOk_iff]
  constructor
  · rintro ⟨⟨⟨⟨⟨⟨⟨⟨⟨⟨a, b⟩, c⟩, d⟩, e⟩, f⟩, g⟩, h⟩, i⟩, j⟩, k⟩
    exact ⟨a, b, c, d, e, f, g, h, Nat.le_trans i g, i, j, k⟩
  · rintro ⟨a, b, c, d, e, f, g, h, -, i, j, k⟩
    exact ⟨⟨⟨⟨⟨⟨⟨⟨⟨⟨a, b⟩, c⟩, d⟩, e⟩, f⟩, g⟩, h⟩, i⟩, j⟩, k⟩

theorem defineCfg_iff {pl : List Byte} {cfg : LaneCfg} : defineCfg pl = some cfg ↔
    cfg.address = (byteAt pl 0).toNat % 32 ∧ cfg.periodCode.val = (byteAt pl 0).toNat / 32
    ∧ cfg.lowLimit = s16At pl 1 ∧ cfg.highLimit = s16At pl 3
    ∧ cfg.slewStep = u16At pl 5 ∧ cfg.blendStep = u16At pl 7 ∧ cfg.stopStep = u16At pl 9
    ∧ cfg.autoResume = (byteAt pl 11).getLsbD 0 ∧ cfg.coupled = (byteAt pl 11).getLsbD 1 ∧ fallbackField (byteAt pl 11) cfg.fallback := by
  unfold defineCfg
  constructor
  · intro h
    split at h
    · next p f period fallback =>
      cases h
      exact ⟨rfl, periodOf_iff.1 period, rfl, rfl, rfl, rfl, rfl, rfl, rfl, fallbackOf_iff.1 fallback⟩
    · cases h
  · obtain ⟨address, period, low, high, slew, blend, stop, resume, coupled, fallback⟩ := cfg
    rintro ⟨rfl, code, rfl, rfl, rfl, rfl, rfl, rfl, rfl, field⟩
    rw [periodOf_iff.2 code, fallbackOf_iff.2 field]

theorem getLsbD_amendMask {pl : List Byte} {k : Nat} (lt : k < 16) : (amendMask pl).getLsbD k = (u16At pl 0).testBit k := by
  rw [amendMask, BitVec.getLsbD_ofNat, decide_eq_true lt, Bool.true_and]

theorem amendCfg_iff {pl : List Byte} {c cfg : LaneCfg} : amendCfg pl c = some cfg ↔
    cfg.address = (if (u16At pl 0).testBit 0 then (byteAt pl 2).toNat % 32 else c.address)
    ∧ cfg.periodCode.val = (if (u16At pl 0).testBit 1 then (byteAt pl 2).toNat / 32 else c.periodCode.val)
    ∧ cfg.lowLimit = (if (u16At pl 0).testBit 2 then s16At pl 3 else c.lowLimit)
    ∧ cfg.highLimit = (if (u16At pl 0).testBit 3 then s16At pl 5 else c.highLimit)
    ∧ cfg.slewStep = (if (u16At pl 0).testBit 4 then u16At pl 7 else c.slewStep)
    ∧ cfg.blendStep = (if (u16At pl 0).testBit 5 then u16At pl 9 else c.blendStep)
    ∧ cfg.stopStep = (if (u16At pl 0).testBit 6 then u16At pl 11 else c.stopStep)
    ∧ cfg.autoResume = (if (u16At pl 0).testBit 7 then (byteAt pl 13).getLsbD 0 else c.autoResume)
    ∧ (if (u16At pl 0).testBit 8 then fallbackField (byteAt pl 13) cfg.fallback else cfg.fallback = c.fallback)
    ∧ cfg.coupled = (if (u16At pl 0).testBit 9 then (byteAt pl 13).getLsbD 1 else c.coupled) := by
  have period : ∀ p, (if (u16At pl 0).testBit 1 then periodOf ((byteAt pl 2).toNat / 32) else some c.periodCode) = some p ↔
      p.val = if (u16At pl 0).testBit 1 then (byteAt pl 2).toNat / 32 else c.periodCode.val := fun p => by
    split
    · exact periodOf_iff
    · rw [Option.some_inj, ← Fin.val_inj]
      exact eq_comm
  have fallback : ∀ f, (if (u16At pl 0).testBit 8 then fallbackOf ((byteAt pl 13).toNat / 4 % 4) else some c.fallback) = some f ↔
      if (u16At pl 0).testBit 8 then fallbackField (byteAt pl 13) f else f = c.fallback := fun f => by
    split
    · exact fallbackOf_iff
    · rw [Option.some_inj]
      exact eq_comm
  unfold amendCfg
  simp only [getLsbD_amendMask (pl := pl) (k := 0) (by decide), getLsbD_amendMask (pl := pl) (k := 1) (by decide),
    getLsbD_amendMask (pl := pl) (k := 2) (by decide), getLsbD_amendMask (pl := pl) (k := 3) (by decide),
    getLsbD_amendMask (pl := pl) (k := 4) (by decide), getLsbD_amendMask (pl := pl) (k := 5) (by decide),
    getLsbD_amendMask (pl := pl) (k := 6) (by decide), getLsbD_amendMask (pl := pl) (k := 7) (by decide),
    getLsbD_amendMask (pl := pl) (k := 8) (by decide), getLsbD_amendMask (pl := pl) (k := 9) (by decide)]
  constructor
  · intro h
    split at h
    · next p f named other =>
      cases h
      exact ⟨rfl, (period _).1 named, rfl, rfl, rfl, rfl, rfl, rfl, (fallback _).1 other, rfl⟩
    · cases h
  · obtain ⟨address, code, low, high, slew, blend, stop, resume, coupled, action⟩ := cfg
    rintro ⟨rfl, named, rfl, rfl, rfl, rfl, rfl, rfl, other, rfl⟩
    rw [(period _).2 named, (fallback _).2 other]

theorem amendMask_eq_zero_iff {pl : List Byte} : amendMask pl = 0#16 ↔ u16At pl 0 = 0 := by
  rw [← BitVec.toNat_inj, toNat_amendMask]
  rfl

/-- The mask names a field that a pin protects: any but auto resume (R16). -/
theorem namesPinned_iff {m : Half} : namesPinned m = true ↔ ∃ k : Fin 10, k ≠ 7 ∧ m.getLsbD k = true := by
  have bits : ∀ k : Fin 16, (0x37F#16).getLsbD k = true ↔ k.val < 10 ∧ k.val ≠ 7 := by decide
  unfold namesPinned
  rw [bne_iff_ne, ne_eq, BitVec.eq_of_getLsbD_eq_iff]
  simp only [BitVec.getLsbD_and, BitVec.getLsbD_zero, not_forall, Bool.not_eq_false, Bool.and_eq_true]
  constructor
  · rintro ⟨k, lt, named, pin⟩
    obtain ⟨low, ne⟩ := (bits ⟨k, lt⟩).1 pin
    exact ⟨⟨k, low⟩, fun e => ne (congrArg Fin.val e), named⟩
  · rintro ⟨k, ne, named⟩
    exact ⟨k.val, by omega, named, (bits ⟨k.val, by omega⟩).2 ⟨k.isLt, fun e => ne (Fin.ext e)⟩⟩

end Sys2Proof.Fields

namespace Sys2Proof.LaneRequests

open Sys2Proof.Machine Sys2Proof.Safety Sys2Proof.LaneFields Sys2Proof.Checks Sys2Proof.Records Sys2Proof.Fields Sys2Proof.TableLaws

/-! ## AMEND_LANE (O27) -/

/-- An accepted AMEND_LANE writes the record, and marks a transaction in flight if the address has changed. -/
theorem amend_eq (s : State) (i : LaneId) (m : Half) (cfg : LaneCfg) (l : Lane) : s.amend i m cfg l
    = { s.putLane i (some (l.amended m cfg)) with link := if cfg.address = l.cfg.address then s.link else s.link.markStale i } := by
  unfold State.amend
  split <;> rfl

/-- The event of an accepted AMEND_LANE is a write of its record but for the link. -/
theorem amended_done (s : State) (c : Ctx) (i : LaneId) (m : Half) (cfg : LaneCfg) (l : Lane) {t : State}
    (e : t = ((keyState s c l).amend i m cfg l).finish c (.ok [])) :
    WritesLane s t i (some (l.amended m cfg)) ∧ Answered t c (afterKey l (s.port c.port)) .ok []
      ∧ t.port (otherPort c.port) = s.port (otherPort c.port) ∧ t.frames = s.frames
      ∧ t.link = (if cfg.address = l.cfg.address then s.link else s.link.markStale i) ∧ SameLines s t := by
  have done := laneDone_put s c i l (l.amended m cfg)
  have link : t = { ((keyState s c l).putLane i (some (l.amended m cfg))).modPort c.port (·.answer c.slot .ok []) with
      link := if cfg.address = l.cfg.address then s.link else s.link.markStale i } := by
    rw [e, amend_eq, (keyState_link s c l).link]
    unfold State.finish
    cases c.port <;> rfl
  obtain ⟨⟨lane, others, pool⟩, ⟨slot, slots, dup, order, discard, strikes, barred, lease, attn, mask, served⟩, other, ⟨-, frames⟩,
    ⟨pending, held, haltLevel, haltPin, haltRun, haltIn, ticks, framer, gapTimer, urxLow, uTx, spi, misoOut, lineIn, straps⟩⟩ := done
  have port : ∀ (u : State) (x : Link) (p : PortId), { u with link := x }.port p = u.port p := fun u x p => by cases p <;> rfl
  rw [link]
  refine ⟨⟨lane, others, pool⟩, ?_, (port ..).trans other, frames, rfl,
    ⟨pending, held, haltLevel, haltPin, haltRun, haltIn, ticks, framer, gapTimer, urxLow, uTx, spi, misoOut, lineIn, straps⟩⟩
  constructor <;> simp only [port]
  all_goals assumption

/-- Settles O27: the checks in their order, then the fields by the mask. -/
theorem amendWritesNamedFields : Obligations.AmendWritesNamedFields := by
  refine ⟨fun s c i l serves shape reaches => ?_, fun s i a => addressHeld_iff, fun i x cs b => ⟨rfl, rfl, rfl, rfl⟩,
    fun pl k lt => getLsbD_amendMask lt, fun pl c cfg => amendCfg_iff, fun cfg => cfgOk_iff⟩
  have action := action_of_reaches (act := amendAction) (fun _ => rfl) (amendShape_iff.2 shape) reaches
  dsimp only at action
  refine ⟨_, exec_request (by decide) serves, fun zero => ?_, fun address off => ?_, fun standby pinned named => ?_,
    fun nonzero standby unpinned => ?_⟩
  · exact laneDone_of_same reaches.record (action.trans (if_pos (amendMask_eq_zero_iff.2 zero)))
  · refine onlyAnswered_of_refuse (action.trans ((if_neg fun zero => ?_).trans (if_pos ⟨address, off⟩)))
    rw [zero] at address
    cases address
  · refine onlyAnswered_of_refuse (action.trans ((if_neg fun zero => ?_).trans ((if_neg fun h => h.2 (standby h.1)).trans
      (if_pos ⟨pinned, namesPinned_iff.2 named⟩))))
    obtain ⟨k, -, bit⟩ := named
    rw [zero, BitVec.getLsbD_zero] at bit
    cases bit
  · have free : ¬ (l.pinned = true ∧ namesPinned (amendMask c.req.payload) = true) := fun ⟨pinned, named⟩ => by
      obtain ⟨k, ne, bit⟩ := namesPinned_iff.1 named
      rw [unpinned pinned k ne] at bit
      cases bit
    have checked := action.trans ((if_neg fun zero => nonzero (amendMask_eq_zero_iff.1 zero)).trans
      ((if_neg fun h => h.2 (standby h.1)).trans (if_neg free)))
    refine ⟨fun bad => ?_, fun cfg named ok => ⟨fun taken => ?_, fun free => ?_⟩⟩
    · cases named : amendCfg c.req.payload l.cfg with
      | none =>
        rw [named] at checked
        exact onlyAnswered_of_refuse checked
      | some cfg =>
        rw [named] at checked
        refine onlyAnswered_of_refuse (checked.trans (if_pos ?_))
        rw [bad cfg named]
        rfl
    · rw [named] at checked
      refine onlyAnswered_of_refuse (checked.trans ((if_neg ?_).trans (if_pos ?_)))
      · rw [ok]
        exact nofun
      · rw [addressHeld_congr (keyState_lane s c l)]
        exact taken
    · rw [named] at checked
      have accepts := checked.trans ((if_neg (by rw [ok]; exact nofun)).trans
        (if_neg (by rw [addressHeld_congr (keyState_lane s c l)]; exact free)))
      refine amended_done s c i (amendMask c.req.payload) cfg l ?_
      show (amendAction c (s.takeRequest c)).2.finish c (amendAction c (s.takeRequest c)).1 = _
      rw [accepts]

/-! ## RETIRE_LANE (O28) -/

theorem attn_afterKey (l : Lane) (p : Port) : (afterKey l p).attn = p.attn := by
  unfold afterKey
  split <;> rfl

theorem enterVacant_port (s : State) (i : LaneId) (p : PortId) : (s.enterVacant i).port p = (s.port p).dropLane i := by
  cases p <;> rfl

theorem sameLines_trans {s u t : State} (h : SameLines s u) (h' : SameLines u t) : SameLines s t :=
  ⟨h'.pending.trans h.pending, h'.held.trans h.held, h'.haltLevel.trans h.haltLevel, h'.haltPin.trans h.haltPin,
    h'.haltRun.trans h.haltRun, h'.haltIn.trans h.haltIn, h'.ticks.trans h.ticks, h'.framer.trans h.framer, h'.gapTimer.trans h.gapTimer,
    h'.urxLow.trans h.urxLow, h'.uTx.trans h.uTx, h'.spi.trans h.spi, h'.misoOut.trans h.misoOut, h'.lineIn.trans h.lineIn,
    h'.straps.trans h.straps⟩

theorem sameLines_modPort (s : State) (p : PortId) (f : Port → Port) : SameLines s (s.modPort p f) := by
  cases p <;> constructor <;> rfl

theorem sameLines_enterVacant (s : State) (i : LaneId) (p : PortId) (f : Port → Port) : SameLines s ((s.enterVacant i).modPort p f) :=
  sameLines_trans (by constructor <;> rfl) (sameLines_modPort (s.enterVacant i) p f)

/-- Settles O28: the checks in their order, then the entry to VACANT. -/
theorem retireMakesVacant : Obligations.RetireMakesVacant := by
  intro s c i l serves length reaches
  have action := action_of_reaches (act := retireAction) (fun _ => rfl) (lengthIs_iff.2 length) reaches
  rw [followerCount_congr (keyState_lane s c l)] at action
  refine ⟨afterRequest retireAction s c, exec_request (row := .retireLane) (by decide) serves, fun mode => ?_, fun standby pinned => ?_,
    fun standby free followed => ?_, fun standby free leaf => ?_⟩
  · exact onlyAnswered_of_refuse (action.trans (if_pos mode))
  · exact onlyAnswered_of_refuse (action.trans ((if_neg (not_not_intro standby)).trans (if_pos pinned)))
  · exact onlyAnswered_of_refuse (action.trans ((if_neg (not_not_intro standby)).trans
      ((if_neg (by rw [free]; exact nofun)).trans (if_pos (Nat.ne_of_gt followed)))))
  have accepts := action.trans ((if_neg (not_not_intro standby)).trans
    ((if_neg (by rw [free]; exact nofun)).trans (if_neg (not_not_intro leaf))))
  have event : afterRequest retireAction s c = ((keyState s c l).enterVacant i).modPort c.port (·.answer c.slot .ok []) := by
    unfold afterRequest
    rw [accepts]
    rfl
  rw [event]
  obtain ⟨link, frames⟩ := keyState_link s c l
  refine ⟨⟨?_, fun j ne => ?_, ?_⟩, ?_, ?_, answered_of .ok [] ?_ ?_, ?_, ?_⟩
  · rw [State.lane_modPort, State.lane_enterVacant, if_pos rfl]
  · rw [State.lane_modPort, State.lane_enterVacant, if_neg ne, keyState_lane]
  · rw [State.modPort_poolFree]
    show (keyState s c l).poolFree + queueLen ((keyState s c l).lane i) - queueLen none = _
    rw [keyState_pool, keyState_lane]
  · rw [State.modPort_frames]
    show (keyState s c l).frames.filter _ = _
    rw [frames]
  · rw [State.modPort_link]
    show (keyState s c l).link.markStale i = _
    rw [link]
  · rw [enterVacant_port, keyState_port]
    unfold Port.dropLane
    rw [Port.setSlot_attn, attn_afterKey]
    rfl
  · exact keyState_served s c l
  · rw [State.port_modPort_of_ne _ _ (otherPort_ne _), enterVacant_port, keyState_other]
    exact AttentionSets.portButSet_attn _ _
  · exact sameLines_trans (keyState_lines s c l) (sameLines_enterVacant _ i c.port _)

end Sys2Proof.LaneRequests
end

section
/-! PROOF. DEFINE_LANE and CLEAR_TRIP (O29, O30). -/

namespace Sys2Proof.LaneRequests

open Sys2Proof.Machine Sys2Proof.Safety Sys2Proof.LaneFields Sys2Proof.Checks Sys2Proof.Records Sys2Proof.Fields Sys2Proof.TableLaws

/-! ## A request that takes a lane and waits (R156) -/

/-- A record written with a control entry at the tail of the list. -/
theorem writesLane_pushControl {s u : State} (lanes : ∀ j, u.lane j = s.lane j) (pool : u.poolFree = s.poolFree) (i : LaneId) (o : Option Lane)
    (k : FrameKind) : WritesLane s ((u.putLane i o).pushControl i k) i o := by
  refine ⟨State.lane_putLane_self u i o, fun j ne => (State.lane_putLane_of_ne u o ne).trans (lanes j), ?_⟩
  show u.poolFree + queueLen (u.lane i) - queueLen o = _
  rw [pool, lanes]

theorem sameLines_pushControl (u : State) (i : LaneId) (o : Option Lane) (k : FrameKind) :
    SameLines u ((u.putLane i o).pushControl i k) := by
  constructor <;> rfl

theorem sameLines_takeRequest (s : State) (c : Ctx) : SameLines s (s.takeRequest c) := by
  constructor <;> simp

theorem port_pushed (u : State) (i : LaneId) (o : Option Lane) (k : FrameKind) (p : PortId) :
    ((u.putLane i o).pushControl i k).port p = u.port p := by cases p <;> rfl

/-! ## DEFINE_LANE (O29) -/

theorem defineRefusal_congr {s t : State} (same : ∀ j, t.lane j = s.lane j) (i : LaneId) (cfg : LaneCfg) (src : Source) :
    t.defineRefusal i cfg src = s.defineRefusal i cfg src := by
  unfold State.defineRefusal
  rw [addressHeld_congr same]
  cases src with
  | fixed => rfl
  | follow k =>
    dsimp only
    rw [parentRefusal_congr same]

theorem defineRefusal_taken {s : State} {i : LaneId} {cfg : LaneCfg} (taken : s.addressHeld i cfg.address = true) (src : Source) :
    s.defineRefusal i cfg src = some .addressTaken := if_pos taken

theorem defineRefusal_follow {s : State} {i : LaneId} {cfg : LaneCfg} (free : s.addressHeld i cfg.address = false) (k : FollowLink) :
    s.defineRefusal i cfg (.follow k) = s.parentRefusal (k.parent == i) k.parent 0 := if_neg (by rw [free]; exact nofun)

theorem defineRefusal_fixed {s : State} {i : LaneId} {cfg : LaneCfg} (free : s.addressHeld i cfg.address = false) :
    s.defineRefusal i cfg .fixed = none := if_neg (by rw [free]; exact nofun)

/-- The structure checks of a good DEFINE_LANE payload on a VACANT lane, and its acceptance. -/
theorem defineVacant_of {s : State} {c : Ctx} {i : LaneId} {cfg : LaneCfg} {src : Source} (config : defineCfg c.req.payload = some cfg)
    (source : sourceAt (byteAt c.req.payload 12) c.req.payload 15 = some src) (ok : cfgOk cfg = true)
    (range : inRange (s16At c.req.payload 13)) : defineVacant c i (s.takeRequest c) = match s.defineRefusal i cfg src with
      | some r => (.refuse r, s.takeRequest c)
      | none => (.wait, ((s.takeRequest c).putLane i
          (some (Lane.defined { port := c.port, slot := c.slot } cfg src (s16At c.req.payload 13)))).pushControl i (.ident 1)) := by
  unfold defineVacant
  dsimp only
  rw [config, source]
  dsimp only
  rw [if_neg (by rw [ok, ruOk_iff.2 range]; exact nofun), defineRefusal_congr fun j => s.lane_takeRequest c j] <;> rfl

/-- Settles O29: the checks on a VACANT lane in their order, then the fields by the payload's bytes. -/
theorem defineMakesDefining : Obligations.DefineMakesDefining := by
  refine ⟨fun s c i serves shape lane => ?_, fun s i a => addressHeld_iff, fun pl cfg => defineCfg_iff, fun kind pl k src => sourceAt_iff,
    fun cfg => cfgOk_iff⟩
  refine ⟨afterRequest defineAction s c, exec_request (row := .defineLane) (by decide) serves, fun l record key free => ?_,
    fun vacant => ?_⟩
  · refine onlyAnswered_of_refuse ?_
    simp only [defineAction, defineShape_iff.2 shape, lane, State.lane_takeRequest, record, keyed, keyCheck_of_passes key, free]
    rfl
  · have action : defineAction c (s.takeRequest c) = defineVacant c i (s.takeRequest c) := by
      simp only [defineAction, defineShape_iff.2 shape, lane, State.lane_takeRequest, vacant]
      rfl
    refine ⟨fun bad => ?_, fun cfg src config source ok range => ?_⟩
    · refine onlyAnswered_of_refuse_plain (action.trans ?_)
      unfold defineVacant
      dsimp only
      split
      · next cfg src config source =>
        refine if_pos ?_
        obtain off | out := bad cfg src config source
        · rw [off]
          rfl
        · rw [ruOk_eq_false out, Bool.and_false]
          rfl
      · rfl
    · have checked := action.trans (defineVacant_of config source ok range)
      have refuses : ∀ r, s.defineRefusal i cfg src = some r → OnlyAnswered s (afterRequest defineAction s c) c (s.port c.port) r [] :=
        fun r refusal => onlyAnswered_of_refuse_plain (by rw [checked, refusal])
      refine ⟨fun taken => refuses _ (defineRefusal_taken taken src), fun free => ⟨?_, ?_, ?_, ?_, fun accepted => ?_⟩⟩
      · rintro k rfl self
        exact refuses _ (by rw [defineRefusal_follow free, beq_iff_eq.2 self, parentRefusal_cycle])
      · rintro k rfl other vacant
        exact refuses _ (by rw [defineRefusal_follow free, beq_eq_false_iff_ne.2 other, parentRefusal_vacant vacant])
      · rintro k p m rfl other record mode
        exact refuses _ (by rw [defineRefusal_follow free, beq_eq_false_iff_ne.2 other, parentRefusal_defining record mode])
      · rintro k p rfl other record service deep
        exact refuses _ (by rw [defineRefusal_follow free, beq_eq_false_iff_ne.2 other, parentRefusal_service record service, if_pos deep])
      · have accepts : s.defineRefusal i cfg src = none := by
          cases src with
          | fixed => exact defineRefusal_fixed free
          | follow k =>
            obtain ⟨other, shallow, p, record, service⟩ := accepted k rfl
            rw [defineRefusal_follow free, beq_eq_false_iff_ne.2 other, parentRefusal_service record service, if_neg (by omega)]
        have event : afterRequest defineAction s c = ((s.takeRequest c).putLane i
            (some (Lane.defined { port := c.port, slot := c.slot } cfg src (s16At c.req.payload 13)))).pushControl i (.ident 1) := by
          unfold afterRequest
          rw [checked, accepts]
          rfl
        rw [event]
        refine ⟨writesLane_pushControl (fun j => s.lane_takeRequest c j) (by simp) i _ _, ?_, ?_, waits_of ?_ ?_, ?_,
          sameLines_trans (sameLines_takeRequest s c) (sameLines_pushControl ..)⟩
        · exact congrArg (· ++ _) (State.takeRequest_frames s c)
        · exact State.takeRequest_link s c
        · rw [port_pushed, State.takeRequest_port_self]
        · exact State.takeRequest_lastServed s c
        · rw [port_pushed, State.takeRequest_port_other]

/-! ## CLEAR_TRIP (O30) -/

/-- With the root, every lane that leaves goes to STANDBY. -/
theorem leaves_standby {s : State} {root j : LaneId} {b : Bool} (h : s.leaves root false j = some b) : b = false := by
  unfold State.leaves at h
  generalize 24 = n at h
  induction n generalizing j b with
  | zero =>
    unfold State.leavesUp at h
    split at h <;> cases h
    rfl
  | succ n ih =>
    unfold State.leavesUp at h
    split at h
    · cases h
      rfl
    · split at h
      · cases h
      · split at h
        · split at h
          · cases h
          · obtain ⟨a, up, rfl⟩ := Option.map_eq_some_iff.1 h
            rw [ih up]
            rfl
        · cases h

/-- With no pending CLEAR at the root, a resolution that leads to STANDBY writes lanes alone. -/
theorem leaveTripped_standby {s : State} {root : LaneId} {l : Lane} (law : LaneLaw s) (record : s.lane root = some l)
    (free : l.mode.clearMarker = none) : ∃ ls, s.leaveTripped root false = { s with lanes := ls } := by
  refine foldl_allLanes_rest (fun u => ∃ ls, u = { s with lanes := ls }) (fun u j i ne => by rw [lane_resolveOne, if_neg ne])
    (fun u j kept same => ?_) ⟨s.lanes, rfl⟩
  obtain ⟨ls, rfl⟩ := kept
  have puts : ∀ m m' : Lane, s.lane j = some m → m'.queue = m.queue →
      ∃ ls', State.putLane { s with lanes := ls } j (some m') = { s with lanes := ls' } := by
    intro m m' lane queue
    rw [lane] at same
    refine ⟨ls.set j (some m'), ?_⟩
    unfold State.putLane
    rw [same]
    simp only [queueLen, queue, Nat.add_sub_cancel]
  unfold State.resolveOne
  split
  · exact ⟨ls, rfl⟩
  · next m lane =>
    split
    · next b leaves =>
      obtain rfl := leaves_standby leaves
      have marker : m.mode.clearMarker = none := by
        obtain rfl | ⟨n, k, mode⟩ := tripped_of_leaves leaves lane
        · rw [record] at lane
          cases lane
          exact free
        · have ok := (law j m lane).mode
          unfold ModeOk at ok
          rw [mode] at ok ⊢
          obtain ⟨-, -, -, -, -, -, -, none⟩ := ok
          exact none rfl
      unfold State.leaveOne
      rw [marker]
      exact puts m (m.leaveTripped false) lane rfl
    · split
      · exact ⟨ls, rfl⟩
      · split
        · exact puts m _ lane rfl
        · exact ⟨ls, rfl⟩

/-- Settles O30: by the lane state, and the resolution of a resolved lane, which reaches lanes alone. -/
theorem clearTripTakesItsPath : Obligations.ClearTripTakesItsPath := by
  intro s c i l law serves length reaches
  have action := action_of_reaches (act := clearTripAction) (fun _ => rfl) (lengthIs_iff.2 length) reaches
  refine ⟨afterRequest clearTripAction s c, exec_request (row := .clearTrip) (by decide) serves, fun bad => ?_, fun n m mode => ?_,
    fun n m mode => ?_, fun k n m mode => ?_⟩
  · refine onlyAnswered_of_refuse (action.trans ?_)
    obtain untripped | ⟨n, m, mode⟩ := bad
    · cases mode : l.mode with
      | tripped k n r m => exact absurd mode (untripped k n r m)
      | _ => rfl
    · rw [mode]
  · exact onlyAnswered_of_refuse (action.trans (by rw [mode]))
  · have event : afterRequest clearTripAction s c = ((keyState s c l).putLane i
        (some { l with mode := .tripped .drive n false (some { port := c.port, slot := c.slot }) })).pushControl i .clear := by
      unfold afterRequest
      rw [action, mode]
      rfl
    rw [event]
    refine ⟨writesLane_pushControl (keyState_lane s c l) (keyState_pool s c l) i _ _, ?_, ?_, waits_of ?_ ?_, ?_,
      sameLines_trans (keyState_lines s c l) (sameLines_pushControl ..)⟩
    · exact congrArg (· ++ _) (keyState_link s c l).frames
    · exact (keyState_link s c l).link
    · rw [port_pushed, keyState_port]
    · exact keyState_served s c l
    · rw [port_pushed, keyState_other]
  · have record : (keyState s c l).lane i = some l := (keyState_lane s c l i).trans reaches.record
    have free : l.mode.clearMarker = none := by
      have pending := reaches.free
      rw [mode] at pending ⊢
      exact Option.not_isSome_iff_eq_none.1 (Bool.eq_false_iff.1 pending)
    have after : ((keyState s c l).leaveTripped i false).lane i = some { l with mode := .standby, output := 0, track := .blending } := by
      rw [lane_leaveTripped]
      unfold leaveRecord
      rw [record, Pending.leaves_root]
      rfl
    obtain ⟨ls, left⟩ := leaveTripped_standby (fun j l' lane => law j l' ((keyState_lane s c l j).symm.trans lane)) record free
    have event : afterRequest clearTripAction s c
        = State.modPort { keyState s c l with lanes := ls } c.port (·.answer c.slot .ok []) := by
      unfold afterRequest
      rw [action, mode, ← left]
      rfl
    rw [left] at after
    have lines : SameLines (keyState s c l) { keyState s c l with lanes := ls } := by constructor <;> rfl
    have port : ∀ p, { keyState s c l with lanes := ls }.port p = (keyState s c l).port p := fun p => by cases p <;> rfl
    rw [event]
    refine ⟨(State.lane_modPort ..).trans after, answered_of .ok [] ((port _).trans (keyState_port s c l)) (keyState_served s c l), ?_, ?_, ?_,
      ?_, sameLines_trans (sameLines_trans (keyState_lines s c l) lines) (sameLines_modPort ..)⟩
    · rw [State.port_modPort_of_ne _ _ (otherPort_ne _), port, keyState_other]
    · exact (State.modPort_frames ..).trans (keyState_link s c l).frames
    · exact (State.modPort_link ..).trans (keyState_link s c l).link
    · exact (State.modPort_poolFree ..).trans (keyState_pool s c l)

end Sys2Proof.LaneRequests
end

section
/-! PROOF. The requests that name no lane: the reads, the kind mask and ACK_ATTENTION (O31, O35). -/

namespace Sys2Proof.DeviceRequests

open Sys2Proof.Machine Sys2Proof.Safety Sys2Proof.LeasePeriods Sys2Proof.LaneFields Sys2Proof.Checks Sys2Proof.AttentionSets

/-- A request that names no lane, with a payload of the right shape and the lane field 255, comes to its own steps. -/
theorem action_of_laneless {act : Request.Action} {s : State} {c : Ctx} {test : Bool} {rest : State → Answer × State}
    (form : ∀ t, act c t = laneless c test t (rest t)) (shape : test = true) (lane : c.req.lane = 255#8) :
    act c (s.takeRequest c) = rest (s.takeRequest c) := by
  rw [form, shape, laneless_of_lane_eq lane]

/-! ## The reads (O31) -/

theorem stateCode_eq_laneCode (o : Option Lane) : stateCode o = laneCode o := by
  cases o with
  | none => rfl
  | some l =>
    show l.mode.code = match l.mode with
      | .defining _ => 1
      | .standby => 2
      | .active _ _ => 3
      | .stopping _ => 4
      | .tripped _ _ _ _ => 5
    cases l.mode <;> rfl

theorem byteAt_map_allLanes (f : LaneId → Byte) (i : LaneId) : byteAt (allLanes.map f) i = f i := by
  have all : allLanes = List.finRange 24 := by decide
  unfold byteAt
  rw [all, List.getD_eq_getElem _ _ (by simp)]
  simp

/-- The entries that READ_ATTENTION gives are the set's, byte for byte (R186). -/
theorem laneAttn_entries_eq (i : LaneId) (a : LaneAttn) : a.entries i.val = laneEntries i a := by
  obtain ⟨segmentDone, profileEmpty, locked, stopped, tripped, resumed, linkLost, claimDropped⟩ := a
  have segment : entryBytes segmentDone.isSome i.val (16 * (segmentDone.map (·.2.toNat)).getD 0) ((segmentDone.map (·.1.toNat)).getD 0)
      = match segmentDone with
        | none => []
        | some (tag, more) => [[byteOf i.val, if more then 0x10#8 else 0x00#8, tag]] := by
    obtain _ | ⟨tag, more⟩ := segmentDone
    · rfl
    · cases more <;> simp [entryBytes, byteOf]
  have trip : entryBytes tripped.isSome i.val (4 + 32 * (tripped.map (·.1.code)).getD 0) ((tripped.map (·.2)).getD 0)
      = match tripped with
        | none => []
        | some (cause, code) => [[byteOf i.val, byteOf (4 + 32 * causeCode cause), byteOf code]] := by
    obtain _ | ⟨cause, code⟩ := tripped
    · rfl
    · cases cause <;> rfl
  unfold LaneAttn.entries laneEntries
  dsimp only
  rw [segment, trip]
  rfl

theorem entries_eq_setEntries (a : AttnSet) : a.entries = setEntries a := by
  have all : allLanes = List.finRange 24 := by decide
  unfold AttnSet.entries setEntries
  simp only [laneAttn_entries_eq, all]
  rfl

theorem view_eq (a : AttnSet) : a.view = byteOf (setEntries a).length :: byteOf (min 8 (setEntries a).length)
    :: ((setEntries a).take 8).flatten := by
  unfold AttnSet.view
  rw [count_eq_length_setEntries, entries_eq_setEntries, List.length_take]

theorem findDrive_of_held {s : State} {i : LaneId} {l : Lane} {a : Nat} (law : AddressLaw s) (record : s.lane i = some l)
    (address : l.cfg.address = a) : s.findDrive a = some i := by
  have holds : ∃ j, s.findDrive a = some j := by
    refine Option.isSome_iff_exists.1 (List.find?_isSome.2 ⟨i, mem_allLanes i, ?_⟩)
    rw [record]
    exact beq_iff_eq.2 address
  obtain ⟨j, found⟩ := holds
  have match' := List.find?_some found
  rw [found]
  cases lane : s.lane j with
  | none =>
    rw [lane] at match'
    cases match'
  | some m =>
    rw [lane] at match'
    have same : m.cfg.address = a := beq_iff_eq.1 match'
    exact congrArg some (law j i m l lane record (same.trans address.symm))

theorem findDrive_of_free {s : State} {a : Nat} (free : ∀ i l, s.lane i = some l → l.cfg.address ≠ a) : s.findDrive a = none := by
  refine List.find?_eq_none.2 fun i _ => ?_
  cases record : s.lane i with
  | none => exact nofun
  | some l => exact fun h => free i l record (beq_iff_eq.1 h)

theorem findDrive_takeRequest (s : State) (c : Ctx) (a : Nat) : (s.takeRequest c).findDrive a = s.findDrive a := by
  unfold State.findDrive
  simp only [State.lane_takeRequest]

/-- Settles O31: each read's answer on the state as it stands. -/
theorem readsChangeNothing : Obligations.ReadsChangeNothing := by
  refine ⟨fun s c lane => ⟨fun serves length => ?_, fun serves length => ?_, fun serves length => ?_, fun serves length => ?_⟩,
    fun s c law serves length lane => ?_⟩
  · have action := action_of_laneless (act := nopAction) (s := s) (fun _ => rfl) (lengthIs_iff.2 length) lane
    exact ⟨_, exec_request (by decide) serves, onlyAnswered_of_ok_plain action⟩
  · have action := action_of_laneless (act := readDeviceAction) (s := s) (fun _ => rfl) (lengthIs_iff.2 length) lane
    rw [(deviceBytes_takeRequest c).1, (deviceBytes_takeRequest c).2, State.takeRequest_poolFree, State.takeRequest_haltLevel] at action
    exact ⟨_, exec_request (by decide) serves, onlyAnswered_of_ok_plain action⟩
  · have action := action_of_laneless (act := listLanesAction) (s := s) (fun _ => rfl) (lengthIs_iff.2 length) lane
    refine ⟨_, _, exec_request (by decide) serves, onlyAnswered_of_ok_plain action, rfl, fun i => ?_⟩
    rw [byteAt_map_allLanes, State.lane_takeRequest, stateCode_eq_laneCode]
  · have action := action_of_laneless (act := readAttentionAction) (s := s) (fun _ => rfl) (lengthIs_iff.2 length) lane
    rw [attn_takeRequest, view_eq] at action
    exact ⟨_, exec_request (by decide) serves, onlyAnswered_of_ok_plain action⟩
  · have action := action_of_laneless (act := findDriveAction) (s := s) (fun _ => rfl) (lengthIs_iff.2 length) lane
    dsimp only at action
    rw [findDrive_takeRequest] at action
    refine ⟨_, exec_request (by decide) serves, fun out => onlyAnswered_of_refuse_plain (action.trans (if_pos out)),
      fun low high => ⟨fun i l record address => ?_, fun free => ?_⟩⟩
    · rw [findDrive_of_held law record address] at action
      exact onlyAnswered_of_ok_plain (action.trans (if_neg (by omega)))
    · rw [findDrive_of_free free] at action
      exact onlyAnswered_of_refuse_plain (action.trans (if_neg (by omega)))

/-! ## ACK_ATTENTION (R187, O35) -/

theorem pairOk_iff {a b : Byte} : pairOk a b = true ↔ (b.toNat ≤ 7 ∧ a.toNat ≤ 23) ∨ ((b = 8#8 ∨ b = 9#8) ∧ a = 255#8) := by
  have eight : b.toNat = 8 ↔ b = 8#8 := BitVec.toNat_inj (y := 8#8)
  have nine : b.toNat = 9 ↔ b = 9#8 := BitVec.toNat_inj (y := 9#8)
  have last : a.toNat = 255 ↔ a = 255#8 := BitVec.toNat_inj (y := 255#8)
  simp only [pairOk, kindLapsed, kindOverrun, Bool.or_eq_true, Bool.and_eq_true, decide_eq_true_eq, beq_iff_eq, eight, nine, last]
  exact or_congr_left (and_congr Nat.lt_succ_iff Nat.lt_succ_iff)

theorem byteOf_lane_toNat (i : LaneId) : (byteOf i.val).toNat = i.val := by
  rw [byteOf, BitVec.toNat_ofNat, Nat.mod_eq_of_lt (by omega)]

/-- A pair acknowledges the entries of the lane that it names, and of no other. -/
theorem lanes_ack {lane kind : Byte} (ok : pairOk lane kind = true) (a : AttnSet) (i : LaneId) : (a.ack lane kind).lanes[i]
    = if lane = byteOf i.val then a.lanes[i].remove kind.toNat else a.lanes[i] := by
  unfold AttnSet.ack
  obtain ⟨kindLe, laneLe⟩ | ⟨port, rfl⟩ := pairOk_iff.1 ok
  · rw [if_neg (by rw [beq_iff_eq, kindLapsed]; omega), if_neg (by rw [beq_iff_eq, kindOverrun]; omega)]
    obtain ⟨j, found⟩ : ∃ j, laneOf lane = some j := ⟨⟨lane.toNat, by omega⟩, laneOf_eq_some_iff.2 rfl⟩
    have named : lane = byteOf i.val ↔ i = j := by
      rw [← BitVec.toNat_inj, byteOf_lane_toNat, laneOf_eq_some_iff.1 found, Fin.val_inj]
      exact eq_comm
    rw [found]
    dsimp only
    rw [AttnSet.lanes_onLane]
    by_cases self : i = j
    · subst self
      rw [if_pos rfl, if_pos (named.2 rfl)]
    · rw [if_neg self, if_neg fun e => self (named.1 e)]
  · have other : ¬ 255#8 = byteOf i.val := fun e => by
      have := congrArg BitVec.toNat e
      rw [byteOf_lane_toNat] at this
      have lt := i.isLt
      have : (255#8).toNat = 255 := rfl
      omega
    rw [if_neg other]
    obtain rfl | rfl := port <;> rfl

/-- The mask that removes a kind enables every other. -/
theorem removes_bit : ∀ (kind : Fin 8) (k : Fin 8), (~~~(1#10 <<< kind.val)).getLsbD k.val = !decide (k = kind) := by decide

/-- The pair names the entry of lane i and kind k, or leaves it. -/
theorem named_iff {lane kind : Byte} {i : LaneId} (ok : pairOk lane kind = true) (named : lane = byteOf i.val) (k : Fin 8) :
    (~~~(1#10 <<< kind.toNat)).getLsbD k.val = !decide ((lane, kind) = (byteOf i.val, BitVec.ofNat 8 k.val)) := by
  obtain ⟨kindLe, -⟩ | ⟨-, last⟩ := pairOk_iff.1 ok
  · rw [removes_bit ⟨kind.toNat, by omega⟩ k, named]
    congr 1
    refine decide_eq_decide.2 ?_
    rw [Prod.mk.injEq, ← BitVec.toNat_inj (x := kind), BitVec.toNat_ofNat, Nat.mod_eq_of_lt (by omega), ← Fin.val_inj]
    exact ⟨fun e => ⟨rfl, e.symm⟩, fun e => e.2.symm⟩
  · have := congrArg BitVec.toNat (named.symm.trans last)
    rw [byteOf_lane_toNat] at this
    have lt := i.isLt
    have : (255#8).toNat = 255 := rfl
    omega

/-- What one pair leaves of an entry that is present or not. -/
theorem ack_flag {lane kind : Byte} (ok : pairOk lane kind = true) (a : AttnSet) (i : LaneId) (k : Fin 8) {read : LaneAttn → Bool}
    (keeps : ∀ (m : BitVec 10) x, read (x.keep m) = (m.getLsbD k.val && read x)) :
    read (a.ack lane kind).lanes[i] = (read a.lanes[i] && !decide ((lane, kind) = (byteOf i.val, BitVec.ofNat 8 k.val))) := by
  rw [lanes_ack ok]
  by_cases named : lane = byteOf i.val
  · rw [if_pos named, LaneAttn.remove, keeps, named_iff ok named k, Bool.and_comm]
  · rw [if_neg named, decide_eq_false fun e => named (Prod.mk.inj e).1, Bool.not_false, Bool.and_true]

/-- What one pair leaves of an entry with detail. -/
theorem ack_detail {α : Type} {lane kind : Byte} (ok : pairOk lane kind = true) (a : AttnSet) (i : LaneId) (k : Fin 8)
    {read : LaneAttn → Option α} (keeps : ∀ (m : BitVec 10) x, read (x.keep m) = if m.getLsbD k.val then read x else none) :
    read (a.ack lane kind).lanes[i] = if (lane, kind) = (byteOf i.val, BitVec.ofNat 8 k.val) then none else read a.lanes[i] := by
  rw [lanes_ack ok]
  by_cases named : lane = byteOf i.val
  · rw [if_pos named, LaneAttn.remove, keeps, named_iff ok named k]
    by_cases same : (lane, kind) = (byteOf i.val, BitVec.ofNat 8 k.val) <;> simp [same]
  · rw [if_neg named, if_neg fun e => named (Prod.mk.inj e).1]

/-- The same of a list of pairs: an entry goes when a pair names it. -/
theorem ackAll_flag {read : AttnSet → Bool} {e : Byte × Byte}
    (one : ∀ (a : AttnSet) (x : Byte × Byte), pairOk x.1 x.2 = true → read (a.ack x.1 x.2) = (read a && !decide (x = e)))
    {pairs : List (Byte × Byte)} (ok : ∀ x ∈ pairs, pairOk x.1 x.2 = true) (a : AttnSet) :
    read (a.ackAll pairs) = (read a && !decide (e ∈ pairs)) := by
  induction pairs generalizing a with
  | nil => simp [AttnSet.ackAll]
  | cons x pairs ih =>
    obtain ⟨first, rest⟩ := List.forall_mem_cons.1 ok
    have step := ih rest (a.ack x.1 x.2)
    rw [one a x first] at step
    refine step.trans ?_
    rw [Bool.and_assoc, ← Bool.not_or, ← Bool.decide_or]
    simp only [List.mem_cons, eq_comm]

theorem ackAll_detail {α : Type} {read : AttnSet → Option α} {e : Byte × Byte}
    (one : ∀ (a : AttnSet) (x : Byte × Byte), pairOk x.1 x.2 = true → read (a.ack x.1 x.2) = if x = e then none else read a)
    {pairs : List (Byte × Byte)} (ok : ∀ x ∈ pairs, pairOk x.1 x.2 = true) (a : AttnSet) :
    read (a.ackAll pairs) = if e ∈ pairs then none else read a := by
  induction pairs generalizing a with
  | nil => simp [AttnSet.ackAll]
  | cons x pairs ih =>
    obtain ⟨first, rest⟩ := List.forall_mem_cons.1 ok
    have step := ih rest (a.ack x.1 x.2)
    rw [one a x first] at step
    refine step.trans ?_
    by_cases self : x = e
    · simp [self]
    · simp [self, Ne.symm self]

/-- The port entries of a set after one pair. -/
theorem ack_port {lane kind : Byte} (ok : pairOk lane kind = true) (a : AttnSet) :
    (a.ack lane kind).lapsed = (a.lapsed && !decide ((lane, kind) = (255#8, 8#8)))
      ∧ (a.ack lane kind).overrun = (a.overrun && !decide ((lane, kind) = (255#8, 9#8))) := by
  unfold AttnSet.ack
  obtain ⟨kindLe, laneLe⟩ | ⟨rfl | rfl, rfl⟩ := pairOk_iff.1 ok
  · have other : ∀ k : Byte, (lane, kind) ≠ (255#8, k) := fun k e => by
      have := congrArg BitVec.toNat (Prod.mk.inj e).1
      have : (255#8).toNat = 255 := rfl
      omega
    rw [if_neg (by rw [beq_iff_eq, kindLapsed]; omega), if_neg (by rw [beq_iff_eq, kindOverrun]; omega), decide_eq_false (other 8#8),
      decide_eq_false (other 9#8), Bool.not_false, Bool.and_true, Bool.and_true]
    cases laneOf lane <;> exact ⟨rfl, rfl⟩
  · exact ⟨(Bool.and_false _).symm, (Bool.and_true _).symm⟩
  · exact ⟨(Bool.and_true _).symm, (Bool.and_false _).symm⟩

/-- What the pairs of an ACK_ATTENTION leave of the entries of a lane (R187). -/
theorem ackAll_lane {pairs : List (Byte × Byte)} (ok : ∀ x ∈ pairs, pairOk x.1 x.2 = true) (a : AttnSet) (i : LaneId) (k : Fin 8)
    {read : LaneAttn → Bool} (keeps : ∀ (m : BitVec 10) x, read (x.keep m) = (m.getLsbD k.val && read x)) :
    read (a.ackAll pairs).lanes[i] = (read a.lanes[i] && !decide ((byteOf i.val, BitVec.ofNat 8 k.val) ∈ pairs)) :=
  ackAll_flag (read := fun a => read a.lanes[i]) (fun a _ ok => ack_flag ok a i k keeps) ok a

theorem ackAll_laneDetail {α : Type} {pairs : List (Byte × Byte)} (ok : ∀ x ∈ pairs, pairOk x.1 x.2 = true) (a : AttnSet) (i : LaneId)
    (k : Fin 8) {read : LaneAttn → Option α} (keeps : ∀ (m : BitVec 10) x, read (x.keep m) = if m.getLsbD k.val then read x else none) :
    read (a.ackAll pairs).lanes[i] = if (byteOf i.val, BitVec.ofNat 8 k.val) ∈ pairs then none else read a.lanes[i] :=
  ackAll_detail (read := fun a => read a.lanes[i]) (fun a _ ok => ack_detail ok a i k keeps) ok a

theorem flag_not_mem_iff {b : Bool} {p : Prop} [Decidable p] : (b && !decide p) = true ↔ b = true ∧ ¬ p := by
  simp

/-- Settles O35: the mask keeps the enabled entries, and the pairs remove the entries they name. -/
theorem maskAndAckRemoveEntries : Obligations.MaskAndAckRemoveEntries := by
  refine ⟨fun s c m serves length lane mask => ?_, fun a b => pairOk_iff, fun a b rest => rfl, rfl, fun s c serves shape lane => ?_⟩
  · have value : BitVec.ofNat 10 (u16At c.req.payload 0) = m := by rw [mask, BitVec.ofNat_toNat, BitVec.setWidth_eq]
    have shape : maskShape c.req.payload = true := maskShape_of length (by rw [mask]; exact m.isLt)
    have action := action_of_laneless (act := setAttentionMaskAction) (s := s) (fun _ => rfl) shape lane
    dsimp only at action
    rw [value, State.port_modPort_self, count_eq_length_setEntries] at action
    have attn : (Port.setMask m ((s.takeRequest c).port c.port)).attn = (s.port c.port).attn.keep m := by
      show ((s.takeRequest c).port c.port).attn.keep m = _
      rw [attn_takeRequest]
    rw [attn] at action
    refine ⟨_, (s.port c.port).attn.keep m, exec_request (by decide) serves, onlyAnswered_of_ok_port action ?_, rfl, rfl, fun i => ?_⟩
    · rfl
    · rw [PortLaws.lanes_keep]
      rfl
  · have action := action_of_laneless (act := ackAttentionAction) (s := s) (fun _ => rfl) (ackShape_iff.2 shape) lane
    dsimp only at action
    rw [attn_takeRequest, count_eq_length_setEntries, count_eq_length_setEntries] at action
    refine ⟨_, exec_request (by decide) serves, fun ⟨x, mem, bad⟩ => ?_, fun ok => ?_⟩
    · refine onlyAnswered_of_refuse_plain (action.trans (if_pos ?_))
      rw [Bool.not_eq_true', List.all_eq_false]
      exact ⟨x, mem, by rw [bad]; exact nofun⟩
    · have accepts := action.trans (if_neg (by rw [List.all_eq_true.2 ok]; exact nofun))
      refine ⟨(s.port c.port).attn.ackAll (ackPairs c.req.payload), onlyAnswered_of_ok_port accepts rfl, ?_, ?_, fun i => ?_⟩
      · rw [ackAll_flag (read := AttnSet.lapsed) (fun a x ok => (ack_port ok a).1) ok]
        exact flag_not_mem_iff
      · rw [ackAll_flag (read := AttnSet.overrun) (fun a x ok => (ack_port ok a).2) ok]
        exact flag_not_mem_iff
      · exact ⟨ackAll_lane ok _ i 1 (read := LaneAttn.profileEmpty) fun _ _ => rfl, ackAll_lane ok _ i 2 (read := LaneAttn.locked) fun _ _ => rfl,
          ackAll_lane ok _ i 3 (read := LaneAttn.stopped) fun _ _ => rfl, ackAll_lane ok _ i 5 (read := LaneAttn.resumed) fun _ _ => rfl,
          ackAll_lane ok _ i 6 (read := LaneAttn.linkLost) fun _ _ => rfl,
          ackAll_lane ok _ i 7 (read := LaneAttn.claimDropped) fun _ _ => rfl,
          ackAll_laneDetail ok _ i 4 (read := LaneAttn.tripped) fun _ _ => rfl,
          ackAll_laneDetail ok _ i 0 (read := LaneAttn.segmentDone) fun _ _ => rfl⟩

end Sys2Proof.DeviceRequests
end

section
/-! PROOF. What READ_LANE and READ_PROFILE report, byte by byte (O32, O33). -/

namespace Sys2Proof.Views

open Sys2Proof.Machine Sys2Proof.Safety Sys2Proof.LaneFields Sys2Proof.Checks Sys2Proof.Fields Sys2Proof.PortLines

/-! ## Bytes that hold several fields -/

theorem toNat_byteOf {n : Nat} (lt : n < 256) : (byteOf n).toNat = n := by rw [byteOf, BitVec.toNat_ofNat, Nat.mod_eq_of_lt lt]

/-- A flag in a byte. -/
theorem getLsbD_byteOf {n k : Nat} {b : Bool} (lt : k < 8) (flag : n / 2 ^ k % 2 = b.toNat) : (byteOf n).getLsbD k = b := by
  rw [byteOf, BitVec.getLsbD_ofNat, decide_eq_true lt, Bool.true_and, Nat.testBit_eq_decide_div_mod_eq, flag]
  cases b <;> rfl

/-! ## The bytes of the READ_LANE view (section 10.5) -/

section
variable {i : LaneId} {l : Lane} {depth followers : Nat}

theorem mode_code_lt (m : Mode) : m.code < 8 := by
  cases m <;> simp [Mode.code]

theorem track_code (t : Track) : t.code = (decide (t = .locked)).toNat := by cases t <;> rfl

theorem basis_code (b : Basis) : b.code = (decide (b = .feedback)).toNat := by cases b <;> rfl

/-- The follow fields that the view reports: those of the link, or 0. -/
def linkOf (l : Lane) : FollowLink := l.source.link.getD { parent := 0, ratio := 0, trim := 0, basis := .output }

/-- The drive view that the view reports, or 0. -/
def viewOf (l : Lane) : DriveView := l.view.getD { state := .ready, atRef := false, tripCode := 0, feedback := 0 }

/-- The view as a list of its 32 bytes. -/
theorem laneView_eq : laneView i l depth followers =
    [byteOf (l.mode.code + 8 * l.pinned.toNat + 16 * l.track.code + 32 * l.mode.held.isSome.toNat + 64 * l.source.link.isSome.toNat
        + 128 * (linkOf l).basis.code),
      byteOf (l.cfg.address + 32 * l.cfg.periodCode.val), l.driveType.getD 0,
      (BitVec.ofInt 16 l.cfg.lowLimit).extractLsb' 8 8, (BitVec.ofInt 16 l.cfg.lowLimit).extractLsb' 0 8,
      (BitVec.ofInt 16 l.cfg.highLimit).extractLsb' 8 8, (BitVec.ofInt 16 l.cfg.highLimit).extractLsb' 0 8,
      (BitVec.ofNat 16 l.cfg.slewStep).extractLsb' 8 8, (BitVec.ofNat 16 l.cfg.slewStep).extractLsb' 0 8,
      (BitVec.ofNat 16 l.cfg.blendStep).extractLsb' 8 8, (BitVec.ofNat 16 l.cfg.blendStep).extractLsb' 0 8,
      (BitVec.ofNat 16 l.cfg.stopStep).extractLsb' 8 8, (BitVec.ofNat 16 l.cfg.stopStep).extractLsb' 0 8,
      byteOf (l.cfg.autoResume.toNat + 2 * l.cfg.coupled.toNat + 4 * l.cfg.fallback.code + 16 * l.claim.isSome.toNat
        + 32 * (l.claim.map fun c => portCode c.port).getD 0 + 64 * l.misses),
      (BitVec.ofInt 16 l.setPoint).extractLsb' 8 8, (BitVec.ofInt 16 l.setPoint).extractLsb' 0 8,
      byteOf (linkOf l).parent.val,
      (BitVec.ofNat 16 (linkOf l).ratio).extractLsb' 8 8, (BitVec.ofNat 16 (linkOf l).ratio).extractLsb' 0 8,
      (BitVec.ofInt 16 (linkOf l).trim).extractLsb' 8 8, (BitVec.ofInt 16 (linkOf l).trim).extractLsb' 0 8,
      (BitVec.ofInt 16 l.output).extractLsb' 8 8, (BitVec.ofInt 16 l.output).extractLsb' 0 8,
      (BitVec.ofInt 16 (l.mode.held.getD 0)).extractLsb' 8 8, (BitVec.ofInt 16 (l.mode.held.getD 0)).extractLsb' 0 8,
      byteOf l.mode.causeByte,
      byteOf (l.mode.tripCode + 64 * l.view.isSome.toNat + 128 * (viewOf l).atRef.toNat),
      byteOf ((viewOf l).tripCode + 64 * (viewOf l).state.code),
      (BitVec.ofInt 16 (viewOf l).feedback).extractLsb' 8 8, (BitVec.ofInt 16 (viewOf l).feedback).extractLsb' 0 8,
      byteOf (depth + 8 * followers), byteOf i.val] := by
  unfold laneView s16Bytes u16Bytes halfBytes
  rfl

/-- Byte 0: state, pinned flag, track mode, held flag, source kind and basis. -/
theorem laneView_byte0 : byteAt (laneView i l depth followers) 0 = byteOf (l.mode.code + 8 * l.pinned.toNat + 16 * l.track.code
    + 32 * l.mode.held.isSome.toNat + 64 * l.source.link.isSome.toNat + 128 * (linkOf l).basis.code) := by rw [laneView_eq]; rfl

theorem laneView_state : (byteAt (laneView i l depth followers) 0).toNat % 8 = laneCode (some l)
    ∧ (byteAt (laneView i l depth followers) 0).getLsbD 3 = l.pinned
    ∧ (byteAt (laneView i l depth followers) 0).getLsbD 4 = decide (l.track = .locked)
    ∧ (byteAt (laneView i l depth followers) 0).getLsbD 5 = l.mode.held.isSome
    ∧ (byteAt (laneView i l depth followers) 0).getLsbD 6 = l.source.link.isSome
    ∧ (byteAt (laneView i l depth followers) 0).getLsbD 7 = decide ((linkOf l).basis = .feedback) := by
  have code := mode_code_lt l.mode
  have pinned := Bool.toNat_le l.pinned
  have held := Bool.toNat_le l.mode.held.isSome
  have follow := Bool.toNat_le l.source.link.isSome
  have track := Bool.toNat_le (decide (l.track = .locked))
  have basis := Bool.toNat_le (decide ((linkOf l).basis = .feedback))
  rw [laneView_byte0, track_code, basis_code, ← DeviceRequests.stateCode_eq_laneCode]
  refine ⟨?_, getLsbD_byteOf (by decide) ?_, getLsbD_byteOf (by decide) ?_, getLsbD_byteOf (by decide) ?_, getLsbD_byteOf (by decide) ?_,
    getLsbD_byteOf (by decide) ?_⟩
  · rw [toNat_byteOf (by omega)]
    show _ = l.mode.code
    omega
  all_goals omega

theorem laneView_held {h : Int} (held : l.mode.held = some h) (range : inRange h) : s16At (laneView i l depth followers) 23 = h := by
  refine (s16At_of_bytes (w := BitVec.ofInt 16 (l.mode.held.getD 0)) (by rw [laneView_eq]; rfl) (by rw [laneView_eq]; rfl)).trans ?_
  rw [held]
  exact toInt_ofInt_of_inRange range

theorem laneView_not_held (unheld : l.mode.held = none) :
    byteAt (laneView i l depth followers) 23 = 0#8 ∧ byteAt (laneView i l depth followers) 24 = 0#8 := by
  have high : byteAt (laneView i l depth followers) 23 = (BitVec.ofInt 16 (l.mode.held.getD 0)).extractLsb' 8 8 := by rw [laneView_eq]; rfl
  have low : byteAt (laneView i l depth followers) 24 = (BitVec.ofInt 16 (l.mode.held.getD 0)).extractLsb' 0 8 := by rw [laneView_eq]; rfl
  rw [high, low, unheld]
  decide

/-- Bytes 16 to 20 of a FIXED lane. -/
theorem laneView_fixed (fixed : l.source = .fixed) {k : Nat} (low : 16 ≤ k) (high : k ≤ 20) : byteAt (laneView i l depth followers) k = 0#8 := by
  have parent : byteAt (laneView i l depth followers) 16 = byteOf (linkOf l).parent.val := by rw [laneView_eq]; rfl
  have ratio : byteAt (laneView i l depth followers) 17 = (BitVec.ofNat 16 (linkOf l).ratio).extractLsb' 8 8
      ∧ byteAt (laneView i l depth followers) 18 = (BitVec.ofNat 16 (linkOf l).ratio).extractLsb' 0 8 := by rw [laneView_eq]; exact ⟨rfl, rfl⟩
  have trim : byteAt (laneView i l depth followers) 19 = (BitVec.ofInt 16 (linkOf l).trim).extractLsb' 8 8
      ∧ byteAt (laneView i l depth followers) 20 = (BitVec.ofInt 16 (linkOf l).trim).extractLsb' 0 8 := by rw [laneView_eq]; exact ⟨rfl, rfl⟩
  have none : linkOf l = { parent := 0, ratio := 0, trim := 0, basis := .output } := by
    unfold linkOf
    rw [fixed]
    rfl
  rw [none] at parent ratio trim
  interval_cases k
  · exact parent
  · exact ratio.1
  · exact ratio.2
  · exact trim.1
  · exact trim.2

theorem laneView_follow {k : FollowLink} (follow : l.source = .follow k) (ok : LinkOk k) :
    (byteAt (laneView i l depth followers) 16).toNat = k.parent.val ∧ u16At (laneView i l depth followers) 17 = k.ratio
      ∧ s16At (laneView i l depth followers) 19 = k.trim := by
  obtain ⟨ratio, low, high⟩ := ok
  have link : linkOf l = k := by
    unfold linkOf
    rw [follow]
    rfl
  refine ⟨?_, (u16At_of_bytes (w := BitVec.ofNat 16 (linkOf l).ratio) (by rw [laneView_eq]; rfl) (by rw [laneView_eq]; rfl)).trans ?_,
    (s16At_of_bytes (w := BitVec.ofInt 16 (linkOf l).trim) (by rw [laneView_eq]; rfl) (by rw [laneView_eq]; rfl)).trans ?_⟩
  · have parent : byteAt (laneView i l depth followers) 16 = byteOf (linkOf l).parent.val := by rw [laneView_eq]; rfl
    rw [parent, link, toNat_byteOf (by omega)]
  · rw [link, toNat_ofNat_half (by omega)]
  · rw [link]
    exact toInt_ofInt_of_inRange ⟨by omega, by omega⟩

/-- Bytes 1 to 12 and 14 to 22: address, period code, drive type, configuration, set-point, output. -/
theorem laneView_cfg (ok : LaneOk l) :
    (byteAt (laneView i l depth followers) 1).toNat = l.cfg.address + 32 * l.cfg.periodCode.val
      ∧ s16At (laneView i l depth followers) 3 = l.cfg.lowLimit ∧ s16At (laneView i l depth followers) 5 = l.cfg.highLimit
      ∧ u16At (laneView i l depth followers) 7 = l.cfg.slewStep ∧ u16At (laneView i l depth followers) 9 = l.cfg.blendStep
      ∧ u16At (laneView i l depth followers) 11 = l.cfg.stopStep ∧ s16At (laneView i l depth followers) 14 = l.setPoint
      ∧ s16At (laneView i l depth followers) 21 = l.output := by
  obtain ⟨-, address, low, high, -, -, slew, -, blend, -, -, stop⟩ := cfgOk_iff.1 ok.cfg
  have period := l.cfg.periodCode.isLt
  exact ⟨toNat_byteOf (by omega), (s16At_of_bytes (w := BitVec.ofInt 16 l.cfg.lowLimit) (by rw [laneView_eq]; rfl) (by rw [laneView_eq]; rfl)).trans (toInt_ofInt_of_inRange low),
    (s16At_of_bytes (w := BitVec.ofInt 16 l.cfg.highLimit) (by rw [laneView_eq]; rfl) (by rw [laneView_eq]; rfl)).trans (toInt_ofInt_of_inRange high),
    (u16At_of_bytes (w := BitVec.ofNat 16 l.cfg.slewStep) (by rw [laneView_eq]; rfl) (by rw [laneView_eq]; rfl)).trans (toNat_ofNat_half (by omega)),
    (u16At_of_bytes (w := BitVec.ofNat 16 l.cfg.blendStep) (by rw [laneView_eq]; rfl) (by rw [laneView_eq]; rfl)).trans (toNat_ofNat_half (by omega)),
    (u16At_of_bytes (w := BitVec.ofNat 16 l.cfg.stopStep) (by rw [laneView_eq]; rfl) (by rw [laneView_eq]; rfl)).trans (toNat_ofNat_half (by omega)),
    (s16At_of_bytes (w := BitVec.ofInt 16 l.setPoint) (by rw [laneView_eq]; rfl) (by rw [laneView_eq]; rfl)).trans (toInt_ofInt_of_inRange ok.setPoint),
    (s16At_of_bytes (w := BitVec.ofInt 16 l.output) (by rw [laneView_eq]; rfl) (by rw [laneView_eq]; rfl)).trans (toInt_ofInt_of_inRange ok.output)⟩

theorem laneView_driveType : byteAt (laneView i l depth followers) 2 = l.driveType.getD 0 := by rw [laneView_eq]; rfl

theorem fallback_code (f : Fallback) : f.code < 3 ∧ f.code = match f with
    | .hold => 0
    | .stop => 1
    | .release => 2 := by cases f <;> decide

theorem claim_port_code (o : Option Claim) : (o.map fun c => portCode c.port).getD 0 = (decide (o.map Claim.port = some .u)).toNat := by
  cases o with
  | none => rfl
  | some c => cases port : c.port <;> simp [port, portCode]

/-- Byte 13: options, claim and miss count. -/
theorem laneView_options (misses : l.misses ≤ 3) :
    (byteAt (laneView i l depth followers) 13).getLsbD 0 = l.cfg.autoResume
      ∧ (byteAt (laneView i l depth followers) 13).getLsbD 1 = l.cfg.coupled
      ∧ fallbackField (byteAt (laneView i l depth followers) 13) l.cfg.fallback
      ∧ (byteAt (laneView i l depth followers) 13).getLsbD 4 = l.claim.isSome
      ∧ (byteAt (laneView i l depth followers) 13).getLsbD 5 = decide (l.claim.map Claim.port = some .u)
      ∧ (byteAt (laneView i l depth followers) 13).toNat / 64 = l.misses := by
  have byte : byteAt (laneView i l depth followers) 13 = byteOf (l.cfg.autoResume.toNat + 2 * l.cfg.coupled.toNat + 4 * l.cfg.fallback.code
      + 16 * l.claim.isSome.toNat + 32 * (l.claim.map fun c => portCode c.port).getD 0 + 64 * l.misses) := by rw [laneView_eq]; rfl
  have resume := Bool.toNat_le l.cfg.autoResume
  have coupled := Bool.toNat_le l.cfg.coupled
  have claimed := Bool.toNat_le l.claim.isSome
  have port := Bool.toNat_le (decide (l.claim.map Claim.port = some .u))
  obtain ⟨fallback, code⟩ := fallback_code l.cfg.fallback
  rw [byte, claim_port_code]
  refine ⟨getLsbD_byteOf (by decide) ?_, getLsbD_byteOf (by decide) ?_, ?_, getLsbD_byteOf (by decide) ?_, getLsbD_byteOf (by decide) ?_, ?_⟩
  · omega
  · omega
  · unfold fallbackField
    refine Eq.trans ?_ code
    rw [toNat_byteOf (by omega)]
    omega
  · omega
  · omega
  · rw [toNat_byteOf (by omega)]
    omega

/-- Byte 25 of a lane that is not TRIPPED. -/
theorem laneView_cause : (∀ m, l.mode = .defining m → byteAt (laneView i l depth followers) 25 = if m.port = .u then 0xA0#8 else 0x20#8)
    ∧ (l.mode = .standby ∨ (∃ h r, l.mode = .active h r) → byteAt (laneView i l depth followers) 25 = 0#8)
    ∧ (∀ k, l.mode = .stopping k → byteAt (laneView i l depth followers) 25 = match k with
      | .command => 1#8
      | .halt => 2#8
      | .lapse => 3#8) := by
  have byte : byteAt (laneView i l depth followers) 25 = byteOf l.mode.causeByte := by rw [laneView_eq]; rfl
  rw [byte]
  refine ⟨fun m mode => ?_, fun rest => ?_, fun k mode => ?_⟩
  · rw [mode]
    show byteOf (32 + 128 * portCode m.port) = _
    cases m.port <;> rfl
  · obtain mode | ⟨h, r, mode⟩ := rest <;> rw [mode] <;> rfl
  · rw [mode]
    cases k <;> rfl

theorem cause_code (k : TripCause) : k.code = causeCode k ∧ causeCode k < 4 := by cases k <;> decide

theorem port_code (p : PortId) : portCode p = (decide (p = .u)).toNat := by cases p <;> rfl

/-- Byte 25 of a TRIPPED lane. -/
theorem laneView_tripped {k : TripCause} {n : Nat} {res : Bool} {m : Option Marker} (mode : l.mode = .tripped k n res m) :
    (byteAt (laneView i l depth followers) 25).toNat % 4 = 0
      ∧ (byteAt (laneView i l depth followers) 25).toNat / 4 % 4 = causeCode k
      ∧ (byteAt (laneView i l depth followers) 25).getLsbD 4 = res
      ∧ (m = none → (byteAt (laneView i l depth followers) 25).toNat / 32 = 0)
      ∧ (∀ x, m = some x → (byteAt (laneView i l depth followers) 25).toNat / 32 % 4 = 2
          ∧ (byteAt (laneView i l depth followers) 25).getLsbD 7 = decide (x.port = .u)) := by
  have byte : byteAt (laneView i l depth followers) 25 = byteOf l.mode.causeByte := by rw [laneView_eq]; rfl
  obtain ⟨code, low⟩ := cause_code k
  have resolved := Bool.toNat_le res
  rw [byte, mode]
  cases m with
  | none =>
    have cause : (Mode.tripped k n res none).causeByte = 4 * k.code + 16 * res.toNat := rfl
    rw [cause, code]
    refine ⟨?_, ?_, getLsbD_byteOf (by decide) (by omega), fun _ => ?_, nofun⟩ <;> rw [toNat_byteOf (by omega)] <;> omega
  | some x =>
    have cause : (Mode.tripped k n res (some x)).causeByte = 4 * k.code + 16 * res.toNat + 64 + 128 * portCode x.port := rfl
    have port := Bool.toNat_le (decide (x.port = .u))
    rw [cause, code, port_code]
    refine ⟨?_, ?_, getLsbD_byteOf (by decide) (by omega), nofun, fun y same => ⟨?_, ?_⟩⟩
    · rw [toNat_byteOf (by omega)]
      omega
    · rw [toNat_byteOf (by omega)]
      omega
    · rw [toNat_byteOf (by omega)]
      omega
    · cases same
      exact getLsbD_byteOf (by decide) (by omega)

theorem tripCode_le (ok : LaneOk l) : l.mode.tripCode ≤ 63 := by
  have mode := ok.mode
  unfold ModeOk at mode
  cases m : l.mode with
  | tripped k n r x =>
    rw [m] at mode
    obtain ⟨-, -, -, -, -, drive, other, -⟩ := mode
    show n ≤ 63
    by_cases cause : k = .drive
    · exact (drive cause).2
    · rw [other cause]
      decide
  | _ => exact Nat.zero_le _

/-- Bytes 26 to 29: trip code and drive view. -/
theorem laneView_view (ok : LaneOk l) : (byteAt (laneView i l depth followers) 26).toNat % 64 = l.mode.tripCode
    ∧ (byteAt (laneView i l depth followers) 26).getLsbD 6 = l.view.isSome
    ∧ (byteAt (laneView i l depth followers) 26).getLsbD 7 = (viewOf l).atRef := by
  have byte : byteAt (laneView i l depth followers) 26
      = byteOf (l.mode.tripCode + 64 * l.view.isSome.toNat + 128 * (viewOf l).atRef.toNat) := by rw [laneView_eq]; rfl
  have code := tripCode_le ok
  have seen := Bool.toNat_le l.view.isSome
  have atRef := Bool.toNat_le (viewOf l).atRef
  rw [byte]
  refine ⟨?_, getLsbD_byteOf (by decide) (by omega), getLsbD_byteOf (by decide) (by omega)⟩
  rw [toNat_byteOf (by omega)]
  omega

theorem laneView_unseen (unseen : l.view = none) : (viewOf l).atRef = false ∧ byteAt (laneView i l depth followers) 27 = 0#8
    ∧ byteAt (laneView i l depth followers) 28 = 0#8 ∧ byteAt (laneView i l depth followers) 29 = 0#8 := by
  have byte : byteAt (laneView i l depth followers) 27 = byteOf ((viewOf l).tripCode + 64 * (viewOf l).state.code) := by rw [laneView_eq]; rfl
  have high : byteAt (laneView i l depth followers) 28 = (BitVec.ofInt 16 (viewOf l).feedback).extractLsb' 8 8 := by
    rw [laneView_eq]; rfl
  have low : byteAt (laneView i l depth followers) 29 = (BitVec.ofInt 16 (viewOf l).feedback).extractLsb' 0 8 := by rw [laneView_eq]; rfl
  have view : viewOf l = { state := .ready, atRef := false, tripCode := 0, feedback := 0 } := by
    unfold viewOf
    rw [unseen]
    rfl
  rw [byte, high, low, view]
  decide

theorem laneView_seen {v : DriveView} (seen : l.view = some v) (ok : ViewOk v) : (viewOf l).atRef = v.atRef
    ∧ (byteAt (laneView i l depth followers) 27).toNat % 64 = v.tripCode
    ∧ (byteAt (laneView i l depth followers) 27).toNat / 64 = (match v.state with
      | .ready => 0
      | .run => 1
      | .trip => 2)
    ∧ s16At (laneView i l depth followers) 28 = v.feedback := by
  obtain ⟨range, code, -⟩ := ok
  have view : viewOf l = v := by
    unfold viewOf
    rw [seen]
    rfl
  have byte : byteAt (laneView i l depth followers) 27 = byteOf ((viewOf l).tripCode + 64 * (viewOf l).state.code) := by rw [laneView_eq]; rfl
  have state : v.state.code < 3 ∧ v.state.code = match v.state with
      | .ready => 0
      | .run => 1
      | .trip => 2 := by cases v.state <;> decide
  obtain ⟨low, state⟩ := state
  refine ⟨by rw [view], ?_, ?_, ?_⟩
  · rw [byte, view, toNat_byteOf (by omega)]
    omega
  · refine Eq.trans ?_ state
    rw [byte, view, toNat_byteOf (by omega)]
    omega
  · refine (s16At_of_bytes (w := BitVec.ofInt 16 (viewOf l).feedback) (by rw [laneView_eq]; rfl) (by rw [laneView_eq]; rfl)).trans ?_
    rw [view]
    exact toInt_ofInt_of_inRange range

theorem held_eq_some_iff {h : Int} : l.mode.held = some h ↔ ∃ r, l.mode = .active (some h) r := by
  cases l.mode <;> simp [Mode.held]

theorem held_eq_none_iff : l.mode.held = none ↔ ∀ h r, l.mode ≠ .active (some h) r := by
  cases mode : l.mode with
  | active held run => cases held <;> simp [Mode.held]
  | _ => simp [Mode.held]

end

/-! ## READ_LANE (O32) -/

theorem viewOf_takeRequest (s : State) (c : Ctx) (i : LaneId) : (s.takeRequest c).viewOf i = s.viewOf i := by
  have same : ∀ j, (s.takeRequest c).lane j = s.lane j := fun j => s.lane_takeRequest c j
  unfold State.viewOf
  rw [same, depth_congr same, followerCount_congr same]

theorem followerCount_le (s : State) (i : LaneId) : s.followerCount i ≤ 24 := List.length_filter_le _ allLanes

theorem byteAt_vacantView (i : LaneId) {k : Nat} (lt : k < 31) : byteAt (vacantView i) k = 0#8 := by
  unfold vacantView
  rw [byteAt_append (by rwa [List.length_replicate])]
  unfold byteAt
  rw [List.getD_eq_getElem _ _ (by rwa [List.length_replicate]), List.getElem_replicate]
  rfl

/-- Settles O32: the view of a VACANT lane, or the bytes of the record by the lemmas above. -/
theorem readLaneReportsRecord : Obligations.ReadLaneReportsRecord := by
  intro s c i serves length lane
  have action : readLaneAction c (s.takeRequest c) = (.ok (s.viewOf i), s.takeRequest c) := by
    simp only [readLaneAction, lengthIs_iff.2 length, lane, viewOf_takeRequest]
    rfl
  refine ⟨_, s.viewOf i, exec_request (row := .readLane) (by decide) serves, onlyAnswered_of_ok_plain action, ?_⟩
  cases record : s.lane i with
  | none =>
    have view : s.viewOf i = vacantView i := by
      unfold State.viewOf
      rw [record]
    rw [view]
    have last : byteAt (vacantView i) 31 = byteOf i.val := by simp [vacantView, byteAt]
    exact ⟨by simp [vacantView], by rw [last, toNat_byteOf (by omega)], fun _ k lt => byteAt_vacantView i lt, fun _ other => by cases other⟩
  | some l =>
    have view : s.viewOf i = laneView i l (s.depth i) (s.followerCount i) := by
      unfold State.viewOf
      rw [record]
    rw [view]
    have last : byteAt (laneView i l (s.depth i) (s.followerCount i)) 31 = byteOf i.val := by rw [laneView_eq]; rfl
    refine ⟨by rw [laneView_eq]; rfl, by rw [last, toNat_byteOf (by omega)], (fun other => by cases other), fun l' same ok => ?_⟩
    cases same
    obtain ⟨state, pinned, track, held, follow, basis⟩ := laneView_state (i := i) (l := l) (depth := s.depth i) (followers := s.followerCount i)
    obtain ⟨address, low, high, slew, blend, stop, setPoint, output⟩ :=
      laneView_cfg (i := i) (depth := s.depth i) (followers := s.followerCount i) ok
    obtain ⟨resume, coupled, fallback, claimed, port, misses⟩ :=
      laneView_options (i := i) (depth := s.depth i) (followers := s.followerCount i) ok.misses
    obtain ⟨defining, quiet, stopping⟩ := laneView_cause (i := i) (l := l) (depth := s.depth i) (followers := s.followerCount i)
    obtain ⟨code, seen, atRef⟩ := laneView_view (i := i) (depth := s.depth i) (followers := s.followerCount i) ok
    refine ⟨state, pinned, track, fun h r mode => ⟨?_, ?_⟩, fun unheld => ⟨?_, ?_⟩, fun fixed => ⟨?_, ?_, fun k low high => ?_⟩,
      fun k link => ⟨?_, ?_, laneView_follow link (ok.link k link)⟩, address, fun ty type => ?_, fun type => ?_, low, high, slew, blend, stop,
      resume, coupled, fallback, claimed, port, misses, setPoint, output, defining, quiet, stopping, fun k n res m mode => ?_,
      fun untripped => ?_, seen, fun unseen => ?_, fun v view => ?_, fun shallow => ?_⟩
    · rw [held, held_eq_some_iff.2 ⟨r, mode⟩]
      rfl
    · refine laneView_held (held_eq_some_iff.2 ⟨r, mode⟩) ?_
      have law := ok.mode
      unfold ModeOk at law
      rw [mode] at law
      obtain ⟨-, -, range, -⟩ := law
      exact range h rfl
    · rw [held, held_eq_none_iff.2 unheld]
      rfl
    · exact laneView_not_held (held_eq_none_iff.2 unheld)
    · rw [follow, fixed]
      rfl
    · rw [basis]
      unfold linkOf
      rw [fixed]
      rfl
    · exact laneView_fixed fixed low high
    · rw [follow, link]
      rfl
    · rw [basis]
      unfold linkOf
      rw [link]
      rfl
    · rw [laneView_driveType, type]
      rfl
    · rw [laneView_driveType, type]
      rfl
    · obtain ⟨low, cause, resolved, none, some⟩ :=
        laneView_tripped (i := i) (depth := s.depth i) (followers := s.followerCount i) mode
      refine ⟨low, cause, resolved, none, some, code.trans ?_⟩
      rw [mode]
      rfl
    · refine code.trans ?_
      cases mode : l.mode with
      | tripped k n res m => exact absurd mode (untripped k n res m)
      | _ => rfl
    · obtain ⟨none, zeros⟩ := laneView_unseen (i := i) (depth := s.depth i) (followers := s.followerCount i) unseen
      exact ⟨atRef.trans none, zeros⟩
    · obtain ⟨same, bytes⟩ := laneView_seen (i := i) (depth := s.depth i) (followers := s.followerCount i) view (ok.view v view)
      exact ⟨atRef.trans same, bytes⟩
    · have followers := followerCount_le s i
      have byte : byteAt (laneView i l (s.depth i) (s.followerCount i)) 30 = byteOf (s.depth i + 8 * s.followerCount i) := by
        rw [laneView_eq]; rfl
      rw [byte, toNat_byteOf (by omega)]

end Sys2Proof.Views
end

section
/-! PROOF. What READ_PROFILE reports, byte by byte (O33). -/

namespace Sys2Proof.ProfileView

open Sys2Proof.Machine Sys2Proof.Safety Sys2Proof.LaneFields Sys2Proof.Checks Sys2Proof.Fields Sys2Proof.PortLines Sys2Proof.Views

/-! ## The 6-byte entries of the segments (section 10.5) -/

theorem byteAt_append_right (bs more : List Byte) (k : Nat) : byteAt (bs ++ more) (bs.length + k) = byteAt more k := by
  unfold byteAt
  rw [List.getD_append_right _ _ _ _ (Nat.le_add_right _ _), Nat.add_sub_cancel_left]

theorem length_entry (g : Segment) : g.entry.length = 6 := by
  obtain ⟨body, notify, tag⟩ := g
  cases body <;> rfl

theorem length_entries (gs : List Segment) : (gs.flatMap Segment.entry).length = 6 * gs.length := by
  induction gs with
  | nil => rfl
  | cons g gs ih =>
    rw [List.flatMap_cons, List.length_append, length_entry, ih, List.length_cons]
    omega

/-- The n-th entry is that of the n-th segment. -/
theorem byteAt_entries {gs : List Segment} {n : Nat} {g : Segment} (at_n : gs[n]? = some g) {j : Nat} (lt : j < 6) :
    byteAt (gs.flatMap Segment.entry) (6 * n + j) = byteAt g.entry j := by
  induction gs generalizing n with
  | nil => cases at_n
  | cons h gs ih =>
    rw [List.flatMap_cons]
    cases n with
    | zero =>
      cases at_n
      rw [Nat.mul_zero, Nat.zero_add, byteAt_append (by rwa [length_entry])]
    | succ n =>
      have place : 6 * (n + 1) + j = h.entry.length + (6 * n + j) := by
        rw [length_entry]
        omega
      rw [place, byteAt_append_right, ih at_n]

/-- The peak of a RAMP, 0 for a DWELL: the low 15 bits of the entry's second field. -/
def peakOf (g : Segment) : Nat :=
  match g.body with
  | .ramp _ p _ => p
  | .dwell _ => 0

theorem entry_eq (g : Segment) : g.entry = (match g.body with
    | .ramp e _ _ => s16Bytes e
    | .dwell n => u16Bytes n) ++ u16Bytes (peakOf g + 32768 * g.notify.toNat) ++ [g.tag, byteOf (g.accel % 256)] := by
  obtain ⟨body, notify, tag⟩ := g
  cases body with
  | ramp e p a => rfl
  | dwell n => simp [Segment.entry, peakOf]

theorem peakOf_lt {g : Segment} (ok : SegmentOk g) : peakOf g < 32768 := by
  unfold SegmentOk at ok
  unfold peakOf
  split
  · next body =>
    rw [body] at ok
    obtain ⟨-, -, high, -⟩ := ok
    omega
  · decide

theorem accel_lt {g : Segment} (ok : SegmentOk g) : g.accel / 256 < 16 := by
  unfold SegmentOk at ok
  unfold Segment.accel
  split
  · next body =>
    rw [body] at ok
    obtain ⟨-, -, -, accel⟩ := ok
    omega
  · decide

/-- A 15-bit number and a flag in one two-byte field. -/
theorem flagged_field {bs : List Byte} {k n : Nat} {b : Bool} (lt : n < 32768)
    (high : byteAt bs k = (BitVec.ofNat 16 (n + 32768 * b.toNat)).extractLsb' 8 8)
    (low : byteAt bs (k + 1) = (BitVec.ofNat 16 (n + 32768 * b.toNat)).extractLsb' 0 8) :
    (byteAt bs k).getLsbD 7 = b ∧ u16At bs k % 32768 = n := by
  have word : n + 32768 * b.toNat < 65536 := by
    have := b.toNat_lt
    omega
  constructor
  · rw [high, BitVec.getLsbD_extractLsb', BitVec.getLsbD_ofNat, Nat.testBit_eq_decide_div_mod_eq]
    have flag : (n + 32768 * b.toNat) / 2 ^ (8 + 7) % 2 = b.toNat := by
      have := b.toNat_lt
      omega
    rw [flag]
    cases b <;> rfl
  · rw [u16At_of_bytes high low, toNat_ofNat_half word]
    omega

/-! ## The accel high bits of up to four segments -/

theorem accelHigh_lt {gs : List Segment} (ok : ∀ g ∈ gs, SegmentOk g) : accelHigh gs < 16 ^ gs.length := by
  induction gs with
  | nil => decide
  | cons g gs ih =>
    have head := accel_lt (ok g List.mem_cons_self)
    have tail := ih fun h mem => ok h (List.mem_cons_of_mem _ mem)
    rw [accelHigh, List.length_cons, Nat.pow_succ]
    omega

theorem accelHigh_digit {gs : List Segment} (ok : ∀ g ∈ gs, SegmentOk g) (n : Nat) :
    accelHigh gs / 16 ^ n % 16 = (gs[n]?.map fun g => g.accel / 256).getD 0 := by
  induction gs generalizing n with
  | nil => simp [accelHigh]
  | cons g gs ih =>
    have head := accel_lt (ok g List.mem_cons_self)
    rw [accelHigh]
    cases n with
    | zero =>
      rw [Nat.pow_zero, Nat.div_one, Nat.add_mul_mod_self_left, Nat.mod_eq_of_lt head]
      rfl
    | succ n =>
      rw [Nat.pow_succ', ← Nat.div_div_eq_div_mul, Nat.add_mul_div_left _ _ (by decide), Nat.div_eq_of_lt head, Nat.zero_add,
        ih fun h mem => ok h (List.mem_cons_of_mem _ mem), List.getElem?_cons_succ]

/-! ## The bytes of the READ_PROFILE view -/

/-- The up to four segments that the view shows. -/
def shown (l : Lane) (start : Nat) : List Segment := (l.queue.drop start).take 4

section
variable {l : Lane} {free start : Nat}

theorem profileView_eq : profileView l free start =
    [byteOf (l.mode.run.code + 4 * (l.queue.head?.map Segment.kindCode).getD 0 + 8 * l.queue.length), byteOf free,
      (BitVec.ofNat 16 l.mode.run.report.1).extractLsb' 8 8, (BitVec.ofNat 16 l.mode.run.report.1).extractLsb' 0 8,
      (BitVec.ofInt 16 l.mode.run.report.2).extractLsb' 8 8, (BitVec.ofInt 16 l.mode.run.report.2).extractLsb' 0 8,
      (BitVec.ofNat 16 (accelHigh (shown l start))).extractLsb' 8 8, (BitVec.ofNat 16 (accelHigh (shown l start))).extractLsb' 0 8]
    ++ (shown l start).flatMap Segment.entry := rfl

theorem shown_ok (ok : LaneOk l) : ∀ g ∈ shown l start, SegmentOk g := fun g mem =>
  ok.queue.2 g (List.mem_of_mem_drop (List.mem_of_mem_take mem))

theorem length_shown : (shown l start).length = min 4 (l.queue.length - start) := by
  rw [shown, List.length_take, List.length_drop]

theorem shown_getElem? {n : Nat} (lt : n < 4) : (shown l start)[n]? = l.queue[start + n]? := by
  rw [shown, List.getElem?_take_of_lt lt, List.getElem?_drop]

theorem accelHigh_shown_lt (ok : LaneOk l) : accelHigh (shown l start) < 65536 := by
  have bound : 16 ^ (shown l start).length ≤ 16 ^ 4 := Nat.pow_le_pow_right (by decide) (by rw [length_shown]; omega)
  exact Nat.lt_of_lt_of_le (accelHigh_lt (shown_ok ok)) bound

theorem profileView_accel (ok : LaneOk l) {n : Nat} (lt : n < 4) :
    u16At (profileView l free start) 6 / 16 ^ n % 16 = (l.queue[start + n]?.map fun g => g.accel / 256).getD 0 := by
  have field : u16At (profileView l free start) 6 = (BitVec.ofNat 16 (accelHigh (shown l start))).toNat := u16At_of_bytes rfl rfl
  rw [field, toNat_ofNat_half (accelHigh_shown_lt ok), accelHigh_digit (shown_ok ok), shown_getElem? lt]

theorem byteAt_profileView {n : Nat} {g : Segment} (lt : n < 4) (at_n : l.queue[start + n]? = some g) {j : Nat} (within : j < 6) :
    byteAt (profileView l free start) (8 + 6 * n + j) = byteAt g.entry j := by
  have entry := byteAt_entries ((shown_getElem? lt).trans at_n) within
  rw [profileView_eq, Nat.add_assoc 8, ← entry]
  exact byteAt_append_right [_, _, _, _, _, _, _, _] _ _

theorem run_code_le (r : Run) : r.code ≤ 2 := by cases r <;> simp [Run.code]

theorem kindCode_le (g : Segment) : g.kindCode ≤ 1 := by
  unfold Segment.kindCode
  split <;> decide

theorem headKind_le (gs : List Segment) : (gs.head?.map Segment.kindCode).getD 0 ≤ 1 := by
  cases gs with
  | nil => decide
  | cons g gs => exact kindCode_le g

/-- Byte 0: run state, head kind and length. -/
theorem profileView_byte0 (ok : LaneOk l) : (byteAt (profileView l free start) 0).toNat / 8 = l.queue.length
    ∧ (byteAt (profileView l free start) 0).toNat % 4 = l.mode.run.code
    ∧ (∀ g rest, l.queue = g :: rest → (byteAt (profileView l free start) 0).getLsbD 2 = (match g.body with
        | .ramp _ _ _ => false
        | .dwell _ => true)) := by
  have code := run_code_le l.mode.run
  have kind := headKind_le l.queue
  obtain ⟨length, -⟩ := ok.queue
  have byte : byteAt (profileView l free start) 0 =
    byteOf (l.mode.run.code + 4 * (l.queue.head?.map Segment.kindCode).getD 0 + 8 * l.queue.length) := rfl
  refine ⟨?_, ?_, fun g rest queue => ?_⟩
  · rw [byte, toNat_byteOf (by omega)]
    omega
  · rw [byte, toNat_byteOf (by omega)]
    omega
  · rw [byte]
    refine getLsbD_byteOf (by decide) ?_
    rw [show (l.queue.head?.map Segment.kindCode).getD 0 = g.kindCode by rw [queue]; rfl]
    have le := kindCode_le g
    have bit : (l.mode.run.code + 4 * g.kindCode + 8 * l.queue.length) / 2 ^ 2 % 2 = g.kindCode := by omega
    rw [bit]
    unfold Segment.kindCode
    cases g.body <;> rfl

/-- The progress of the head, in its range. -/
theorem report_lt {g : Segment} {p : Progress} (segment : SegmentOk g) (ok : ProgressOk g p) : p.report < 65536 := by
  unfold SegmentOk at segment
  unfold ProgressOk at ok
  unfold Progress.report
  cases body : g.body <;> cases p <;> rw [body] at segment ok <;> dsimp only at segment ok ⊢ <;> omega

/-- A RUNNING or PAUSED run has its value and progress in range (R54). -/
theorem run_ok (ok : LaneOk l) {h : Option Int} {v : Int} {p : Progress}
    (mode : l.mode = .active h (.running v p) ∨ l.mode = .active h (.paused v p)) : inRange v ∧ p.report < 65536 := by
  have law := ok.mode
  unfold ModeOk at law
  obtain mode | mode := mode
  · rw [mode] at law
    obtain ⟨-, -, -, -, range, g, rest, queue, progress⟩ := law
    exact ⟨range, report_lt (ok.queue.2 g (queue ▸ List.mem_cons_self)) progress⟩
  · rw [mode] at law
    obtain ⟨-, -, -, range, g, rest, queue, progress⟩ := law
    exact ⟨range, report_lt (ok.queue.2 g (queue ▸ List.mem_cons_self)) progress⟩

theorem report_of_run {h : Option Int} {v : Int} {p : Progress}
    (mode : l.mode = .active h (.running v p) ∨ l.mode = .active h (.paused v p)) : l.mode.run.report = (p.report, v) := by
  obtain mode | mode := mode
  all_goals
    rw [mode]
    rfl

theorem run_idle (other : ∀ h v p, l.mode ≠ .active h (.running v p) ∧ l.mode ≠ .active h (.paused v p)) : l.mode.run = .idle := by
  cases mode : l.mode with
  | active h r =>
    cases r with
    | idle => rfl
    | running v p => exact absurd mode (other h v p).1
    | paused v p => exact absurd mode (other h v p).2
  | _ => rfl

theorem profileView_run : u16At (profileView l free start) 2 = (BitVec.ofNat 16 l.mode.run.report.1).toNat
    ∧ s16At (profileView l free start) 4 = (BitVec.ofInt 16 l.mode.run.report.2).toInt :=
  ⟨u16At_of_bytes rfl rfl, s16At_of_bytes rfl rfl⟩

/-- The entry of a shown segment: its tag and notify flag, and its other fields by its kind (R51). -/
theorem profileView_entry (ok : LaneOk l) {n : Nat} {g : Segment} (lt : n < 4) (at_n : l.queue[start + n]? = some g) :
    byteAt (profileView l free start) (8 + 6 * n + 4) = g.tag
      ∧ (byteAt (profileView l free start) (8 + 6 * n + 2)).getLsbD 7 = g.notify
      ∧ u16At (profileView l free start) (8 + 6 * n + 2) % 32768 = peakOf g
      ∧ byteAt (profileView l free start) (8 + 6 * n + 5) = byteOf (g.accel % 256)
      ∧ (∀ e p a, g.body = .ramp e p a → s16At (profileView l free start) (8 + 6 * n) = e)
      ∧ (∀ m, g.body = .dwell m → u16At (profileView l free start) (8 + 6 * n) = m) := by
  have segment : SegmentOk g := ok.queue.2 g (List.mem_of_getElem? at_n)
  have byte : ∀ {j}, j < 6 → byteAt (profileView l free start) (8 + 6 * n + j) = byteAt g.entry j :=
    fun within => byteAt_profileView lt at_n within
  have entry := entry_eq g
  unfold SegmentOk at segment
  have split : ∃ x y, g.entry = [x, y, (BitVec.ofNat 16 (peakOf g + 32768 * g.notify.toNat)).extractLsb' 8 8,
      (BitVec.ofNat 16 (peakOf g + 32768 * g.notify.toNat)).extractLsb' 0 8, g.tag, byteOf (g.accel % 256)] := by
    rw [entry]
    cases g.body with
    | ramp e p a => exact ⟨_, _, rfl⟩
    | dwell m => exact ⟨_, _, rfl⟩
  obtain ⟨x, y, bytes⟩ := split
  obtain ⟨notify, peak⟩ := flagged_field (bs := profileView l free start) (k := 8 + 6 * n + 2) (b := g.notify)
    (peakOf_lt (ok.queue.2 g (List.mem_of_getElem? at_n)))
    ((byte (j := 2) (by decide)).trans (by rw [bytes]; rfl)) ((byte (j := 3) (by decide)).trans (by rw [bytes]; rfl))
  refine ⟨(byte (by decide)).trans (by rw [bytes]; rfl), notify, peak, (byte (by decide)).trans (by rw [bytes]; rfl),
    fun e p a body => ?_, fun m body => ?_⟩
  · rw [body] at segment entry
    obtain ⟨range, -⟩ := segment
    refine (s16At_of_bytes (k := 8 + 6 * n) (w := BitVec.ofInt 16 e) ((byte (j := 0) (by decide)).trans (by rw [entry]; rfl))
      ((byte (j := 1) (by decide)).trans (by rw [entry]; rfl))).trans (toInt_ofInt_of_inRange range)
  · rw [body] at segment entry
    obtain ⟨-, high⟩ := segment
    refine (u16At_of_bytes (k := 8 + 6 * n) (w := BitVec.ofNat 16 m) ((byte (j := 0) (by decide)).trans (by rw [entry]; rfl))
      ((byte (j := 1) (by decide)).trans (by rw [entry]; rfl))).trans (toNat_ofNat_half (by omega))

end

/-- Settles O33: the fields of the view by the lemmas above. -/
theorem readProfileReportsQueue : Obligations.ReadProfileReportsQueue := by
  intro s c i l serves length lane record
  have action : readProfileAction c (s.takeRequest c) = if 11 < (byteAt c.req.payload 0).toNat then (.refuse .badField, s.takeRequest c)
      else (.ok (profileView l s.poolFree (byteAt c.req.payload 0).toNat), s.takeRequest c) := by
    simp only [readProfileAction, lengthIs_iff.2 length, lane, State.lane_takeRequest, record, State.takeRequest_poolFree]
    rfl
  refine ⟨_, exec_request (row := .readProfile) (by decide) serves, fun far => onlyAnswered_of_refuse_plain (action.trans (if_pos far)),
    fun near ok pool => ⟨_, onlyAnswered_of_ok_plain (action.trans (if_neg (by omega))), ?_⟩⟩
  obtain ⟨count, code, kind⟩ := profileView_byte0 (free := s.poolFree) (start := (byteAt c.req.payload 0).toNat) ok
  obtain ⟨progress, value⟩ := profileView_run (l := l) (free := s.poolFree) (start := (byteAt c.req.payload 0).toNat)
  refine ⟨?_, count, kind, toNat_byteOf (by omega), fun h v p mode => ?_, fun h v p mode => ?_, fun h v p mode => ?_, fun other => ?_,
    fun n lt beyond => ?_, fun n g at_n lt => ?_⟩
  · rw [profileView_eq, List.length_append, length_entries, length_shown]
    rfl
  · obtain ⟨range, small⟩ := run_ok ok mode
    rw [progress, value, report_of_run mode, toInt_ofInt_of_inRange range, toNat_ofNat_half small]
    exact ⟨rfl, by cases p <;> rfl⟩
  · rw [code, mode]
    rfl
  · rw [code, mode]
    rfl
  · rw [code, progress, value, run_idle other]
    exact ⟨rfl, rfl, rfl⟩
  · rw [profileView_accel ok lt, beyond]
    rfl
  · obtain ⟨tag, notify, peak, accel, ramp, dwell⟩ := profileView_entry (free := s.poolFree) ok lt at_n
    have high := profileView_accel (free := s.poolFree) (start := (byteAt c.req.payload 0).toNat) ok lt
    rw [at_n] at high
    refine ⟨tag, notify, fun e p a body => ⟨ramp e p a body, peak.trans ?_, ?_, high.trans ?_⟩,
      fun m body => ⟨dwell m body, peak.trans ?_, accel.trans ?_, high.trans ?_⟩⟩
    · rw [peakOf, body]
    · rw [accel, toNat_byteOf (Nat.mod_lt _ (by decide)), Segment.accel, body]
    · simp [Segment.accel, body]
    · rw [peakOf, body]
    · rw [Segment.accel, body]
      rfl
    · simp [Segment.accel, body]

end Sys2Proof.ProfileView
end

section
/-! PROOF. The frames of the ports and of the drive link, written and read back (O50, O51). -/

namespace Sys2Proof.Codecs

open Sys2Proof.Machine Sys2Proof.Safety Sys2Proof.LaneFields Sys2Proof.Checks Sys2Proof.Fields Sys2Proof.PortLines Sys2Proof.Views
open Sys2Proof.ProfileView

/-! ## The two CRCs (R193, R194) -/

theorem crc16Shift_eq : crc16Shift = fun r => if r.getLsbD 15 then (r <<< 1) ^^^ 0x1021#16 else r <<< 1 := by
  funext r
  rw [crc16Shift, BitVec.msb_eq_getLsbD_last]

theorem crc8Shift_eq : crc8Shift = fun r => if r.getLsbD 7 then (r <<< 1) ^^^ 0x2F#8 else r <<< 1 := by
  funext r
  rw [crc8Shift, BitVec.msb_eq_getLsbD_last]

/-- A byte in the high half of a word. -/
theorem append_zero_byte (b : Byte) : (b ++ 0#8 : Half) = b.setWidth 16 <<< 8 := by
  ext k lt
  simp only [BitVec.getElem_append, BitVec.getElem_shiftLeft, BitVec.getElem_setWidth]
  split
  · simp_all
  · next high =>
    simp_all [BitVec.getLsbD_eq_getElem (show k - 8 < 8 by omega)]

theorem crc16Byte_eq (r : Half) (b : Byte) : crc16Byte r b = portCrcStep r b := by
  rw [crc16Byte, crc16Shift_eq, append_zero_byte]
  rfl

theorem crc8Byte_eq (r b : Byte) : crc8Byte r b = linkCrcStep r b := by
  rw [crc8Byte, crc8Shift_eq]
  rfl

theorem crc16_concat (bs : List Byte) (b : Byte) : crc16 (bs ++ [b]) = portCrcStep (crc16 bs) b := by
  rw [crc16, List.foldl_append, ← crc16Byte_eq]
  rfl

theorem crc8_concat (bs : List Byte) (b : Byte) : crc8 (bs ++ [b]) = linkCrcStep (crc8 bs) b := by
  rw [crc8, List.foldl_append, ← crc8Byte_eq]
  rfl

/-! ## Two-byte fields (R192) -/

/-- A signed field, two's complement. -/
theorem s16At_eq (bs : List Byte) (k : Nat) :
    s16At bs k = if u16At bs k < 32768 then (u16At bs k : Int) else (u16At bs k : Int) - 65536 := by
  have lt := Records.u16At_lt bs k
  rw [s16At, BitVec.toInt_eq_toNat_cond, toNat_ofNat_half lt]
  split_ifs <;> omega

/-- A two-byte field after a list of bytes. -/
theorem u16At_after (bs : List Byte) (w : Half) (more : List Byte) :
    BitVec.ofNat 16 (u16At (bs ++ ([w.extractLsb' 8 8, w.extractLsb' 0 8] ++ more)) bs.length) = w := by
  have high : byteAt (bs ++ ([w.extractLsb' 8 8, w.extractLsb' 0 8] ++ more)) bs.length = w.extractLsb' 8 8 :=
    byteAt_append_right bs _ 0
  have low : byteAt (bs ++ ([w.extractLsb' 8 8, w.extractLsb' 0 8] ++ more)) (bs.length + 1) = w.extractLsb' 0 8 :=
    byteAt_append_right bs _ 1
  rw [u16At_of_bytes high low, BitVec.ofNat_toNat, BitVec.setWidth_eq]

/-! ## Request frames (R140) -/

section
variable (seq code lane : Byte) (key : Half) (payload : List Byte)

theorem length_requestBody : (requestBody seq code lane key payload).length = 6 + payload.length := by
  rw [requestBody, List.length_append]
  rfl

/-- What is read from a request body with two bytes after it. -/
theorem parseFrame_requestBody (short : payload.length ≤ 32) (w : Half) (more : List Byte) :
    parseFrame (requestBody seq code lane key payload ++ [w.extractLsb' 8 8, w.extractLsb' 0 8] ++ more)
      = if crc16 (requestBody seq code lane key payload) = w then
          some { seq := seq, code := code, lane := lane, key := key, payload := payload, crc := w }
        else none := by
  have length := length_requestBody seq code lane key payload
  rw [List.append_assoc]
  have count : (byteAt (requestBody seq code lane key payload ++ ([w.extractLsb' 8 8, w.extractLsb' 0 8] ++ more)) 5).toNat
      = payload.length := toNat_byteOf (by omega)
  have field : BitVec.ofNat 16 (u16At (requestBody seq code lane key payload ++ ([w.extractLsb' 8 8, w.extractLsb' 0 8] ++ more))
      (6 + payload.length)) = w := by
    rw [← length]
    exact u16At_after _ w more
  have body : (requestBody seq code lane key payload ++ ([w.extractLsb' 8 8, w.extractLsb' 0 8] ++ more)).take (6 + payload.length)
      = requestBody seq code lane key payload := by
    rw [← length, List.take_left]
  have keyAt : BitVec.ofNat 16 (u16At (requestBody seq code lane key payload ++ ([w.extractLsb' 8 8, w.extractLsb' 0 8] ++ more)) 3)
      = key := by
    rw [u16At_of_bytes (w := key) rfl rfl, BitVec.ofNat_toNat, BitVec.setWidth_eq]
  have rest : ((requestBody seq code lane key payload ++ ([w.extractLsb' 8 8, w.extractLsb' 0 8] ++ more)).drop 6).take payload.length
      = payload := by
    change (payload ++ _).take payload.length = payload
    rw [List.take_left]
  have long : 8 + payload.length
      ≤ (requestBody seq code lane key payload ++ ([w.extractLsb' 8 8, w.extractLsb' 0 8] ++ more)).length := by
    rw [List.length_append, length, List.length_append, List.length_cons, List.length_singleton]
    omega
  unfold parseFrame
  dsimp only
  rw [count, body, field, keyAt, rest]
  simp only [short, long, decide_true, Bool.true_and, beq_iff_eq]
  rfl

end

/-! ## Responses (section 10.2) -/

theorem resultTable_code (r : Result) : resultTable[r.code]? = some r := by cases r <;> rfl

/-- The codes of the results are their places in the table. -/
theorem code_of_resultTable {r : Result} {n : Nat} (at_n : resultTable[n]? = some r) : r.code = n := by
  have nodup : resultTable.Nodup := by decide
  obtain ⟨lt, get⟩ := List.getElem?_eq_some_iff.1 at_n
  obtain ⟨lt', get'⟩ := List.getElem?_eq_some_iff.1 (resultTable_code r)
  exact (nodup.getElem_inj_iff).1 (get'.trans get.symm)

theorem flags_byte (a b : Bool) : (byteOf (a.toNat + 2 * b.toNat)).getLsbD 0 = a ∧ (byteOf (a.toNat + 2 * b.toNat)).getLsbD 1 = b
    ∧ ∀ k, 2 ≤ k → (byteOf (a.toNat + 2 * b.toNat)).getLsbD k = false := by
  have small := a.toNat_lt
  have small' := b.toNat_lt
  refine ⟨getLsbD_byteOf (by decide) (by omega), getLsbD_byteOf (by decide) (by omega), fun k high => ?_⟩
  rw [byteOf, BitVec.getLsbD_ofNat, Nat.testBit_lt_two_pow, Bool.and_false]
  exact Nat.lt_of_lt_of_le (by omega) (Nat.pow_le_pow_right (by decide) high)

/-- Settles O50: a request by `parseFrame_requestBody`, the CRC by its rule for one byte. -/
theorem requestFrameRoundTrip : Obligations.RequestFrameRoundTrip := by
  refine ⟨fun seq code lane key payload short => ⟨rfl, fun more => ?_, fun w more other => ?_⟩, fun bytes bad => ?_,
    fun r n at_n => ?_, fun x => List.mem_of_getElem? (resultTable_code x), ⟨rfl, crc16_concat, by decide +kernel⟩,
    fun bs k => ⟨(List.getD_eq_getElem?_getD ..), by rw [u16At, Nat.mul_comm], s16At_eq bs k⟩⟩
  · exact (parseFrame_requestBody seq code lane key payload short _ more).trans (if_pos rfl)
  · exact (parseFrame_requestBody seq code lane key payload short w more).trans (if_neg other.symm)
  · obtain long | short := bad
    · exact parseFrame_of_long long
    · exact parseFrame_of_short short
  · obtain ⟨lapsed, duplicate, rest⟩ := flags_byte r.lapsed r.duplicate
    refine ⟨_, lapsed, duplicate, rest, ?_⟩
    rw [← code_of_resultTable at_n]
    rfl

/-! ## Replies on the drive link (R171, R194) -/

theorem replyShape_eq (k : FrameKind) : replyShape k = (k.replyLength, k.replyForm) := by cases k <;> rfl

theorem driveStateOf_iff {n : Nat} {d : DriveState} : driveStateOf n = some d ↔ n = d.code := by
  constructor
  · intro found
    unfold driveStateOf at found
    split at found <;> cases found <;> rfl
  · rintro rfl
    cases d <;> rfl

theorem driveState_code_le (d : DriveState) : d.code ≤ 2 := by cases d <;> decide

theorem inRange_iff {x : Int} : ruOk x = true ↔ inRange x := by simp [ruOk, inRange]

/-- A trip code fits a drive state: 1 to 63 with TRIP, 0 with READY and RUN. -/
theorem tripCodeOk_iff {d : DriveState} {n : Nat} : tripCodeOk d n = true ↔ n ≤ 63 ∧ (d = .trip ↔ 1 ≤ n) := by
  cases d <;> simp [tripCodeOk] <;> omega

/-- What is read from a reply, and when (R171). -/
theorem validReply_iff {x : Txn} {chars : List Byte} {r : Reply} : validReply x chars = some r ↔
    ((replyShape x.kind).1 ≤ chars.length
      ∧ crc8 (chars.take ((replyShape x.kind).1 - 1)) = byteAt chars ((replyShape x.kind).1 - 1)
      ∧ byteAt chars 0 = byteOf x.address ∧ byteAt chars 1 = (replyShape x.kind).2)
    ∧ (byteAt chars 2).toNat = r.view.state.code ∧ r.view.atRef = (byteAt chars 3).getLsbD 0
    ∧ r.view.tripCode = (byteAt chars 4).toNat ∧ r.view.feedback = s16At chars 5 ∧ r.driveType = byteAt chars 7
    ∧ (byteAt chars 4).toNat ≤ 63 ∧ (r.view.state = .trip ↔ 1 ≤ (byteAt chars 4).toNat) ∧ inRange (s16At chars 5) := by
  obtain ⟨⟨state, atRef, code, feedback⟩, type⟩ := r
  rw [replyShape_eq]
  unfold validReply
  constructor
  · intro valid
    dsimp only at valid
    split at valid
    · next frame =>
      simp only [Bool.and_eq_true, decide_eq_true_eq, beq_iff_eq] at frame
      obtain ⟨⟨⟨whole, crc⟩, echo⟩, form⟩ := frame
      split at valid
      · cases valid
      · next d found =>
        split at valid
        · next ok =>
          cases valid
          simp only [Bool.and_eq_true] at ok
          obtain ⟨fits, range⟩ := ok
          obtain ⟨le, trip⟩ := tripCodeOk_iff.1 fits
          exact ⟨⟨whole, crc, echo, form⟩, driveStateOf_iff.1 found, rfl, rfl, rfl, rfl, le, trip, inRange_iff.1 range⟩
        · cases valid
    · cases valid
  · rintro ⟨⟨whole, crc, echo, form⟩, found, rfl, rfl, rfl, rfl, le, trip, range⟩
    dsimp only at *
    rw [driveStateOf_iff.2 found]
    simp [whole, crc, echo, form, tripCodeOk_iff.2 ⟨le, trip⟩, inRange_iff.2 range]

/-- The conditions of R171 are those of a valid reply. -/
theorem replyOk_iff {x : Txn} {chars : List Byte} : ReplyOk x chars ↔ ∃ r, validReply x chars = some r := by
  constructor
  · rintro ⟨whole, crc, echo, form, state, tripped, untripped, range⟩
    obtain ⟨d, code⟩ : ∃ d : DriveState, (byteAt chars 2).toNat = d.code := by
      obtain zero | one | two : (byteAt chars 2).toNat = 0 ∨ (byteAt chars 2).toNat = 1 ∨ (byteAt chars 2).toNat = 2 := by omega
      · exact ⟨.ready, zero⟩
      · exact ⟨.run, one⟩
      · exact ⟨.trip, two⟩
    have fits : (byteAt chars 4).toNat ≤ 63 ∧ (d = .trip ↔ 1 ≤ (byteAt chars 4).toNat) := by
      rw [code] at tripped untripped
      cases d with
      | trip =>
        obtain ⟨low, high⟩ := tripped rfl
        exact ⟨high, fun _ => low, fun _ => rfl⟩
      | ready =>
        rw [untripped (by decide)]
        decide
      | run =>
        rw [untripped (by decide)]
        decide
    exact ⟨{ view := { state := d, atRef := (byteAt chars 3).getLsbD 0, tripCode := (byteAt chars 4).toNat, feedback := s16At chars 5 }
             driveType := byteAt chars 7 },
      validReply_iff.2 ⟨⟨whole, crc, echo, form⟩, code, rfl, rfl, rfl, rfl, fits.1, fits.2, range⟩⟩
  · rintro ⟨r, valid⟩
    obtain ⟨⟨whole, crc, echo, form⟩, code, -, -, -, -, le, trip, range⟩ := validReply_iff.1 valid
    refine ⟨whole, crc, echo, form, code ▸ driveState_code_le _, fun two => ?_, fun below => ?_, range⟩
    · exact ⟨trip.1 (by revert code; rw [two]; cases r.view.state <;> simp [DriveState.code]), le⟩
    · have other : r.view.state ≠ .trip := by
        intro state
        rw [state] at code
        exact absurd below (by rw [code]; decide)
      exact BitVec.eq_of_toNat_eq (by rw [BitVec.toNat_ofNat]; have := mt trip.2 other; omega)

/-- The characters of a reply, up to its CRC. -/
theorem reply_crc (address : Nat) (form : Byte) (value : List Byte) :
    crc8 ((linkChars address form value).take (value.length + 2)) = byteAt (linkChars address form value) (value.length + 2) := by
  have body : (byteOf address :: form :: value).length = value.length + 2 := rfl
  rw [linkChars, ← body, List.take_left]
  exact (byteAt_append_right _ [crc8 (byteOf address :: form :: value)] 0).symm

/-- A reply with these fields, before and after its drive type, is read back. -/
theorem validReply_linkChars {x : Txn} {d : DriveState} {atRef : Bool} {code : Nat} {feedback : Int} {flags : Byte} {more : List Byte}
    (range : inRange feedback) (le : code ≤ 63) (trip : d = .trip ↔ 1 ≤ code) (flag : flags.getLsbD 0 = atRef)
    (length : (replyShape x.kind).1 = 8 + more.length) :
    validReply x (linkChars x.address (replyShape x.kind).2 ([byteOf d.code, flags, byteOf code] ++ s16Bytes feedback ++ more))
      = some { view := { state := d, atRef := atRef, tripCode := code, feedback := feedback }
               driveType := byteAt (more ++ [crc8 (byteOf x.address :: (replyShape x.kind).2
                 :: ([byteOf d.code, flags, byteOf code] ++ s16Bytes feedback ++ more))]) 0 } := by
  have field : s16At (linkChars x.address (replyShape x.kind).2 ([byteOf d.code, flags, byteOf code] ++ s16Bytes feedback ++ more)) 5
      = feedback := (s16At_of_bytes (w := BitVec.ofInt 16 feedback) rfl rfl).trans (toInt_ofInt_of_inRange range)
  have codeAt : (byteAt (linkChars x.address (replyShape x.kind).2 ([byteOf d.code, flags, byteOf code] ++ s16Bytes feedback ++ more)) 4).toNat
      = code := toNat_byteOf (by omega)
  have crc := reply_crc x.address (replyShape x.kind).2 ([byteOf d.code, flags, byteOf code] ++ s16Bytes feedback ++ more)
  have last : ([byteOf d.code, flags, byteOf code] ++ s16Bytes feedback ++ more).length + 2 = (replyShape x.kind).1 - 1 := by
    rw [length, List.length_append]
    change 5 + more.length + 2 = _
    omega
  rw [last] at crc
  refine validReply_iff.2 ⟨⟨?_, crc, rfl, rfl⟩, toNat_byteOf (Nat.lt_of_le_of_lt (driveState_code_le d) (by decide)), flag.symm, codeAt.symm,
    field.symm, rfl, codeAt.trans_le le, ?_, ?_⟩
  · rw [length]
    simp [linkChars, s16Bytes, halfBytes]
    omega
  · rw [codeAt]
    exact trip
  · rw [field]
    exact range

/-- Settles O51: the replies by `validReply_iff`. -/
theorem driveReplyRoundTrip : Obligations.DriveReplyRoundTrip := by
  refine ⟨fun x d atRef code feedback type flags n _ range le trip flag => ⟨fun kind => ?_, fun kind => ?_⟩,
    fun x chars => ⟨fun bad => ?_, fun ok => ?_⟩, ⟨rfl, rfl, rfl⟩, fun address form value => rfl,
    fun x range => ⟨(s16At_of_bytes (w := BitVec.ofInt 16 x) rfl rfl).trans (toInt_ofInt_of_inRange range), rfl⟩, rfl, crc8_concat,
    by decide +kernel⟩
  · have shape : replyShape x.kind = (8, 0x70#8) := by
      obtain kind | kind := kind
      all_goals
        rw [kind]
        rfl
    have read := validReply_linkChars (x := x) (more := []) range le trip flag (by rw [shape]; rfl)
    rw [shape, List.append_nil] at read
    exact ⟨_, read⟩
  · have shape : replyShape x.kind = (9, 0x71#8) := by
      rw [kind]
      rfl
    have read := validReply_linkChars (x := x) (more := [type]) range le trip flag (by rw [shape]; rfl)
    rw [shape] at read
    exact read
  · exact Option.eq_none_iff_forall_ne_some.2 fun r valid => bad (replyOk_iff.2 ⟨r, valid⟩)
  · obtain ⟨r, valid⟩ := replyOk_iff.1 ok
    obtain ⟨-, code, atRef, tripCode, feedback, type, -⟩ := validReply_iff.1 valid
    exact ⟨r, valid, code, atRef, tripCode, feedback, fun _ _ => type⟩

end Sys2Proof.Codecs
end

section
/-! PROOF. Reports of one lane in the sets of the ports (R183), and the updates of a lane (O37, O38, O39). -/

namespace Sys2Proof.Updates

open Sys2Proof.Machine Sys2Proof.Safety Sys2Proof.FollowChains Sys2Proof.AttentionSets Sys2Proof.LaneRequests

/-! ## Reports of one lane -/

theorem portButSet_refl (p : Port) : PortButSet p p p.attn := ⟨rfl, rfl, rfl, rfl, rfl, rfl, rfl, rfl, rfl⟩

theorem portButSet_trans {p q r : Port} {a b : AttnSet} (h : PortButSet p q a) (h' : PortButSet q r b) : PortButSet p r b :=
  ⟨h'.slots.trans h.slots, h'.order.trans h.order, h'.dup.trans h.dup, h'.discard.trans h.discard, h'.strikes.trans h.strikes,
    h'.barred.trans h.barred, h'.lease.trans h.lease, h'.mask.trans h.mask, h'.attn⟩

/-- A state after these reports of a lane, and nothing else (R183). -/
structure Reported (s t : State) (i : LaneId) (rs : List LaneReport) : Prop where
  table : SameTable s t
  link : SameLink s t
  served : t.lastServed = s.lastServed
  lines : SameLines s t
  ports : ∀ p, PortButSet (s.port p) (t.port p) (setAfter s i rs p)

theorem setAfter_nil (s : State) (i : LaneId) (p : PortId) : setAfter s i [] p = (s.port p).attn := AttnSet.onLane_same _ i

theorem reported_nil (s : State) (i : LaneId) : Reported s s i [] where
  table := ⟨fun _ => rfl, rfl⟩
  link := ⟨rfl, rfl⟩
  served := rfl
  lines := by constructor <;> rfl
  ports p := (setAfter_nil s i p).symm ▸ portButSet_refl (s.port p)

/-- The report, where it is routed and enabled, is taken by the lane's entries. -/
theorem report_attn (s : State) (i : LaneId) (r : LaneReport) (p : PortId) : ((s.report i r).port p).attn =
    (s.port p).attn.onLane i fun a => if routed s i p && (s.port p).mask.getLsbD r.kind then a.take r else a := by
  rw [State.port_report]
  cases routed s i p with
  | true =>
    rw [if_pos rfl, Port.takeLane_eq]
    simp only [Bool.true_and]
  | false => exact (AttnSet.onLane_same _ i).symm

theorem portButSet_report (s : State) (i : LaneId) (r : LaneReport) (p : PortId) :
    PortButSet (s.port p) ((s.report i r).port p) ((s.report i r).port p).attn := by
  rw [State.port_report]
  split
  · rw [Port.takeLane_eq]
    exact portButSet_attn _ _
  · exact portButSet_refl _

theorem routed_congr {s t : State} {i : LaneId} {p : PortId} (same : (t.lane i).bind Lane.claim = (s.lane i).bind Lane.claim) :
    routed t i p = routed s i p := by
  unfold routed
  rw [same]

theorem onLane_onLane (a : AttnSet) (i : LaneId) (f g : LaneAttn → LaneAttn) : (a.onLane i f).onLane i g = a.onLane i (g ∘ f) := by
  unfold AttnSet.onLane
  simp

theorem setAfter_cons (s : State) (i : LaneId) (r : LaneReport) (rs : List LaneReport) (p : PortId) :
    setAfter (s.report i r) i rs p = setAfter s i (r :: rs) p := by
  have mask : ((s.report i r).port p).mask = (s.port p).mask := (portButSet_report s i r p).mask
  have self : ((s.report i r).port p).attn.lanes[i]
      = if routed s i p && (s.port p).mask.getLsbD r.kind then (s.port p).attn.lanes[i].take r else (s.port p).attn.lanes[i] := by
    rw [report_attn, AttnSet.lanes_onLane, if_pos rfl]
  have entries : entriesAfter (s.report i r) i rs p = entriesAfter s i (r :: rs) p := by
    have routes : routed (s.report i r) i p = routed s i p := routed_congr (by rw [State.lane_report])
    unfold entriesAfter
    rw [self, mask, routes, List.foldl_cons]
  unfold setAfter
  rw [entries, report_attn, onLane_onLane]
  rfl

theorem sameLines_report (s : State) (i : LaneId) (r : LaneReport) : SameLines s (s.report i r) := by constructor <;> simp

theorem reported_cons {s t : State} {i : LaneId} {r : LaneReport} {rs : List LaneReport} (h : Reported (s.report i r) t i rs) :
    Reported s t i (r :: rs) where
  table := ⟨fun j => (h.table.lanes j).trans (s.lane_report i j r), h.table.pool.trans (s.report_poolFree i r)⟩
  link := ⟨h.link.link.trans (s.report_link i r), h.link.frames.trans (s.report_frames i r)⟩
  served := h.served.trans (s.report_lastServed i r)
  lines := sameLines_trans (sameLines_report s i r) h.lines
  ports p := portButSet_trans (portButSet_report s i r p) (setAfter_cons s i r rs p ▸ h.ports p)

theorem reported_reportAll (s : State) (i : LaneId) (rs : List LaneReport) : Reported s (s.reportAll i rs) i rs := by
  induction rs generalizing s with
  | nil => exact reported_nil s i
  | cons r rs ih => exact reported_cons (ih (s.report i r))

/-! ## What an update does (R26, R40) -/

/-- The sets after reports of a lane whose record was written with the same claim. -/
theorem setAfter_putLane {s : State} {i : LaneId} {l m : Lane} (record : s.lane i = some l) (claim : m.claim = l.claim)
    (rs : List LaneReport) (p : PortId) : setAfter (s.putLane i (some m)) i rs p = setAfter s i rs p := by
  have routes : routed (s.putLane i (some m)) i p = routed s i p := by
    refine routed_congr ?_
    rw [State.lane_putLane_self, record]
    exact claim
  unfold setAfter entriesAfter
  rw [routes, State.port_putLane]

theorem frames_pushRef (s : State) (i : LaneId) : (s.pushRef i).frames = afterRef i s.frames := by
  unfold State.pushRef afterRef
  simp only [List.contains_iff_mem]
  split <;> rfl

/-- A record written, its reports, and the REF entry, as one update (R29). -/
theorem updateDone_of_write {s : State} {i : LaneId} {l m : Lane} (record : s.lane i = some l) (claim : m.claim = l.claim)
    (rs : List LaneReport) : UpdateDone s (((s.putLane i (some m)).reportAll i rs).pushRef i) i m rs := by
  obtain ⟨⟨lanes, pool⟩, ⟨link, frames⟩, served, lines, ports⟩ := reported_reportAll (s.putLane i (some m)) i rs
  refine ⟨⟨?_, fun j other => ?_, ?_⟩, ?_, ?_, fun p => ?_, ?_, ?_⟩
  · rw [State.lane_pushRef, lanes, State.lane_putLane_self]
  · rw [State.lane_pushRef, lanes, State.lane_putLane_of_ne _ _ other]
  · rw [State.pushRef_poolFree, pool, State.putLane_poolFree]
  · rw [frames_pushRef, frames, State.putLane_frames]
  · rw [State.pushRef_link, link, State.putLane_link]
  · have port := ports p
    rw [State.port_putLane, setAfter_putLane record claim] at port
    rwa [State.port_pushRef]
  · rw [State.pushRef_lastServed, served, State.putLane_lastServed]
  · refine sameLines_trans (sameLines_trans (u := s.putLane i (some m)) (by constructor <;> rfl) lines) ?_
    constructor <;> simp

theorem claim_update (l : Lane) (base : Int) : (l.update base).1.claim = l.claim := by
  unfold Lane.update
  split
  · rfl
  · unfold Lane.runDown
    dsimp only
    split <;> rfl
  all_goals rfl

theorem updateDone_update {s : State} {i : LaneId} {l : Lane} (record : s.lane i = some l) : UpdateDone s (s.update i l) i
    { (l.update (s.baseDemand l)).1 with timer := some (2 ^ l.cfg.periodCode.val) } (l.update (s.baseDemand l)).2 :=
  updateDone_of_write (m := { (l.update (s.baseDemand l)).1 with timer := some (2 ^ l.cfg.periodCode.val) }) record (claim_update l _) _

/-- An update whose outcome is known. -/
theorem updateDone_of_eq {s : State} {i : LaneId} {l m : Lane} {rs : List LaneReport} (record : s.lane i = some l)
    (outcome : l.update (s.baseDemand l) = (m, rs)) :
    UpdateDone s (s.update i l) i { m with timer := some (2 ^ l.cfg.periodCode.val) } rs := by
  have done := updateDone_update record
  rwa [outcome] at done

/-! ## One bounded move (R33) -/

section
variable {x d : Int} {cap : Nat}

theorem moveToward_near (near : (d - x).natAbs ≤ cap) : moveToward x d cap = d := if_pos near

theorem moveToward_up (far : cap < (d - x).natAbs) (up : x < d) : moveToward x d cap = x + cap := by
  rw [moveToward, if_neg (by omega), if_pos up]

theorem moveToward_down (far : cap < (d - x).natAbs) (down : d < x) : moveToward x d cap = x - cap := by
  rw [moveToward, if_neg (by omega), if_neg (by omega)]

end

theorem cap_eq (c : LaneCfg) (t : Track) : c.cap t = if t = .blending then c.blendStep else c.slewStep := by
  cases t <;> rfl

/-! ## Stage 1 (R61 to R65) -/

section
variable {e v : Int} {peak accel rate n m : Nat} {notify : Bool} {tag : Byte} {p : Progress} {rest : List Segment} {tr : Track}

/-- The rate with which a RAMP head moves. -/
theorem begun_ramp (progress : p = .rate rate ∨ (p = .notStarted ∧ rate = if 1 ≤ accel ∧ accel ≤ peak then accel else peak)) :
    Segment.begun { body := .ramp e peak accel, notify := notify, tag := tag } p = .rate rate := by
  obtain rfl | ⟨rfl, rfl⟩ := progress
  all_goals rfl

theorem begun_dwell (progress : p = .count m ∨ (p = .notStarted ∧ m = n)) :
    Segment.begun { body := .dwell n, notify := notify, tag := tag } p = .count m := by
  obtain rfl | ⟨rfl, rfl⟩ := progress
  all_goals rfl

theorem advanceHead_of_complete {g : Segment} {v' : Int} (done : g.advance v p = (v', none)) :
    advanceHead (.running v p) (g :: rest) tr = completeHead g rest v' tr := by
  simp only [advanceHead, done]

theorem advanceHead_of_more {g : Segment} {v' : Int} {p' : Progress} (more : g.advance v p = (v', some p')) :
    advanceHead (.running v p) (g :: rest) tr = { run := .running v' p', queue := g :: rest, track := tr, reports := [] } := by
  simp only [advanceHead, more]

theorem advance_ramp (progress : p = .rate rate ∨ (p = .notStarted ∧ rate = if 1 ≤ accel ∧ accel ≤ peak then accel else peak)) :
    Segment.advance { body := .ramp e peak accel, notify := notify, tag := tag } v p = if (e - v).natAbs ≤ rate then (e, none)
      else (if v < e then v + rate else v - rate, some (.rate (min (rate + accel) peak))) := by
  simp only [Segment.advance, begun_ramp progress]

theorem advance_dwell (progress : p = .count m ∨ (p = .notStarted ∧ m = n)) :
    Segment.advance { body := .dwell n, notify := notify, tag := tag } v p
      = if m ≤ 1 then (v, none) else (v, some (.count (m - 1))) := by
  simp only [Segment.advance, begun_dwell progress]

end

/-- Settles O38: the head's advance by its kind, then the completion by the rest of the queue. -/
theorem headAdvancesAndCompletes : Obligations.HeadAdvancesAndCompletes := by
  refine ⟨fun e peak accel notify tag v p rate rest tr progress => ⟨fun near => ?_, fun far => ?_⟩,
    fun n notify tag v p m rest tr progress low => ⟨fun last => ?_, fun more => ?_⟩,
    fun g v tr => ⟨fun h rest => rfl, rfl⟩, fun queue tr => ⟨fun v p => ?_, ?_⟩⟩
  · exact advanceHead_of_complete ((advance_ramp progress).trans (if_pos near))
  · exact advanceHead_of_more ((advance_ramp progress).trans (if_neg (by omega)))
  · exact advanceHead_of_complete ((advance_dwell progress).trans (if_pos (by omega)))
  · exact advanceHead_of_more ((advance_dwell progress).trans (if_neg (by omega)))
  · cases queue <;> rfl
  · cases queue <;> rfl

/-! ## The update of an ACTIVE lane (R29 to R34) -/

/-- Settles O37: stages 2 to 5 are those of `Lane.settle`, with the demand given by its rank. -/
theorem activeUpdateIsFiveStages : Obligations.ActiveUpdateIsFiveStages := by
  refine ⟨fun s i l n held run st d cap running record timer mode stage byHeld byProfile byBase limits capped => ?_, fun s l fixed => ?_⟩
  · have demand : d = clampTo l.cfg.lowLimit l.cfg.highLimit (demandOf held st.run (s.baseDemand l)) := by
      rw [clampTo_eq_max_min limits]
      cases held with
      | some h => exact byHeld h rfl
      | none =>
        cases profile : st.run with
        | idle => exact byBase rfl profile
        | running v p => exact byProfile v p rfl (.inl profile)
        | paused v p => exact byProfile v p rfl (.inr profile)
    have update : l.update (s.baseDemand l) = l.settle held st (s.baseDemand l) := by
      rw [stage]
      unfold Lane.update
      rw [mode]
    refine ⟨_, moveToward l.output d cap, exec_laneUpdate running record timer, moveToward_near, moveToward_up, moveToward_down, ?_⟩
    refine updateDone_of_eq (m := { l with
      mode := .active held st.run, queue := st.queue, output := moveToward l.output d cap
      track := if st.track = .blending ∧ moveToward l.output d cap = d then .locked else st.track }) record (update.trans ?_)
    unfold Lane.settle
    rw [← demand, cap_eq, ← capped]
  · unfold State.baseDemand
    rw [fixed]

/-! ## The update of a STOPPING lane and of a lane at rest (R27, R38) -/

theorem update_of_rest {l : Lane} (rest : l.mode = .standby ∨ ∃ k m b x, l.mode = .tripped k m b x) (base : Int) :
    l.update base = (l, []) := by
  unfold Lane.update
  obtain mode | ⟨k, m, b, x, mode⟩ := rest
  all_goals rw [mode]

theorem update_of_stopping {l : Lane} {k : StopCause} (mode : l.mode = .stopping k) (base : Int) : l.update base = l.runDown := by
  unfold Lane.update
  rw [mode]

/-- Settles O39: the run-down by its distance from 0. -/
theorem stoppingAndRestUpdates : Obligations.StoppingAndRestUpdates := by
  intro s i l n running record timer
  refine ⟨_, exec_laneUpdate running record timer, fun k mode near => ?_, fun k mode positive far => ?_, fun rest => ?_⟩
  · have still : moveToward l.output 0 l.cfg.stopStep = 0 := moveToward_near (by omega)
    refine updateDone_of_eq (m := { l with mode := .standby, output := 0 }) record ((update_of_stopping mode _).trans ?_)
    unfold Lane.runDown
    rw [still]
    rfl
  · have moved : moveToward l.output 0 l.cfg.stopStep
        = if 0 < l.output then l.output - l.cfg.stopStep else l.output + l.cfg.stopStep := by
      split
      · next down => exact moveToward_down (by omega) down
      · next up => exact moveToward_up (by omega) (by omega)
    have nonzero : ¬ (if 0 < l.output then l.output - l.cfg.stopStep else l.output + l.cfg.stopStep) = 0 := by
      split <;> omega
    refine updateDone_of_eq
      (m := { l with output := if 0 < l.output then l.output - l.cfg.stopStep else l.output + l.cfg.stopStep }) record ((update_of_stopping mode _).trans ?_)
    unfold Lane.runDown
    rw [moved]
    exact if_neg nonzero
  · exact updateDone_of_eq record (update_of_rest rest _)

end Sys2Proof.Updates
end

section
/-! PROOF. An event that visits every lane, read at one lane, and the expiry of a lease (O41). -/

namespace Sys2Proof.Sweeps

open Sys2Proof.Machine Sys2Proof.Safety Sys2Proof.Records Sys2Proof.Steps Sys2Proof.AttentionSets Sys2Proof.LaneRequests Sys2Proof.Updates

/-! ## What an event reads and writes at one lane -/

/-- What a state holds of one lane: its record, and its entries in each port's set under the port's mask. -/
structure LaneView where
  record : Option Lane
  mask : PortId → BitVec 10
  entries : PortId → LaneAttn

/-- The view of a lane in a state. -/
def laneViewOf (i : LaneId) (s : State) : LaneView where
  record := s.lane i
  mask p := (s.port p).mask
  entries p := (s.port p).attn.lanes[i]

section
variable {i : LaneId} {s t : State}

theorem record_of_laneViewOf {v : LaneView} (view : laneViewOf i s = v) : s.lane i = v.record := congrArg LaneView.record view

theorem mask_of_laneViewOf {v : LaneView} (view : laneViewOf i s = v) (p : PortId) : (s.port p).mask = v.mask p :=
  congrFun (congrArg LaneView.mask view) p

theorem entries_of_laneViewOf {v : LaneView} (view : laneViewOf i s = v) (p : PortId) : (s.port p).attn.lanes[i] = v.entries p :=
  congrFun (congrArg LaneView.entries view) p

theorem laneViewOf_putLane (s : State) (i : LaneId) (o : Option Lane) :
    laneViewOf i (s.putLane i o) = { laneViewOf i s with record := o } := by
  simp only [laneViewOf, State.lane_putLane_self, State.port_putLane]

theorem laneViewOf_putLane_of_ne (s : State) {i j : LaneId} (ne : j ≠ i) (o : Option Lane) :
    laneViewOf i (s.putLane j o) = laneViewOf i s := by
  simp only [laneViewOf, State.lane_putLane_of_ne _ _ ne.symm, State.port_putLane]

/-- A rewrite of a port that keeps the mask and the lane's entries is not seen at the lane. -/
theorem laneViewOf_modPort {p : PortId} {f : Port → Port} (mask : (f (s.port p)).mask = (s.port p).mask)
    (entries : (f (s.port p)).attn.lanes[i] = (s.port p).attn.lanes[i]) : laneViewOf i (s.modPort p f) = laneViewOf i s := by
  unfold laneViewOf
  simp only [State.lane_modPort, LaneView.mk.injEq, true_and]
  constructor
  all_goals
    funext q
    rw [State.port_modPort]
    split
    · next same => simpa only [same]
    · rfl

theorem entries_takeLane_of_ne (p : Port) {i j : LaneId} (ne : j ≠ i) (r : LaneReport) :
    (p.takeLane j r).attn.lanes[i] = p.attn.lanes[i] := by
  rw [Port.takeLane_eq]
  exact (AttnSet.lanes_onLane ..).trans (if_neg ne.symm)

theorem entries_takeLane (p : Port) (i : LaneId) (r : LaneReport) :
    (p.takeLane i r).attn.lanes[i] = if p.mask.getLsbD r.kind then p.attn.lanes[i].take r else p.attn.lanes[i] := by
  rw [Port.takeLane_eq]
  exact (AttnSet.lanes_onLane ..).trans (if_pos rfl)

/-- A sweep over all lanes whose step at another lane does not reach this lane does here what its one step here does. -/
theorem laneViewOf_sweep {f : State → LaneId → State} {v : LaneView} (skip : ∀ u j, j ≠ i → laneViewOf i (f u j) = laneViewOf i u)
    (own : ∀ u, laneViewOf i u = laneViewOf i s → laneViewOf i (f u i) = v) : laneViewOf i (allLanes.foldl f s) = v := by
  have after : ∀ (js : List LaneId) (u : State), i ∉ js → laneViewOf i (js.foldl f u) = laneViewOf i u := by
    intro js
    induction js with
    | nil => exact fun _ _ => rfl
    | cons j js ih =>
      intro u new
      rw [List.foldl_cons, ih _ fun mem => new (List.mem_cons_of_mem _ mem)]
      exact skip u j fun same => new (same ▸ List.mem_cons_self)
  obtain ⟨before, rest, split⟩ := List.append_of_mem (mem_allLanes i)
  have nodup := allLanes_nodup
  rw [split] at nodup ⊢
  obtain ⟨-, tail, apart⟩ := List.nodup_append.1 nodup
  rw [List.foldl_append, List.foldl_cons, after rest _ (List.nodup_cons.1 tail).1]
  exact own _ (after before s fun mem => apart i mem i List.mem_cons_self rfl)

/-! ## What a sweep of one port's lanes keeps -/

/-- A state is another but for the lane records, the pool, and the lanes' entries in one port's set. -/
structure PortSwept (p : PortId) (s t : State) : Prop where
  other : t.port (otherPort p) = s.port (otherPort p)
  port : PortButSet (s.port p) (t.port p) (t.port p).attn
  lapsed : (t.port p).attn.lapsed = (s.port p).attn.lapsed
  overrun : (t.port p).attn.overrun = (s.port p).attn.overrun
  served : t.lastServed = s.lastServed
  link : SameLink s t
  lines : SameLines s t

theorem portSwept_refl (p : PortId) (s : State) : PortSwept p s s :=
  ⟨rfl, portButSet_refl _, rfl, rfl, rfl, ⟨rfl, rfl⟩, by constructor <;> rfl⟩

theorem portSwept_putLane {p : PortId} (h : PortSwept p s t) (i : LaneId) (o : Option Lane) : PortSwept p s (t.putLane i o) where
  other := by rw [State.port_putLane, h.other]
  port := by
    rw [State.port_putLane]
    exact h.port
  lapsed := by rw [State.port_putLane, h.lapsed]
  overrun := by rw [State.port_putLane, h.overrun]
  served := h.served
  link := ⟨h.link.link, h.link.frames⟩
  lines := sameLines_trans h.lines (by constructor <;> rfl)

theorem portSwept_takeLane {p : PortId} (h : PortSwept p s t) (i : LaneId) (r : LaneReport) :
    PortSwept p s (t.modPort p (·.takeLane i r)) where
  other := by rw [State.port_modPort_of_ne _ _ (otherPort_ne p), h.other]
  port := by
    rw [State.port_modPort_self, Port.takeLane_eq]
    exact portButSet_trans h.port (portButSet_attn _ _)
  lapsed := by
    rw [State.port_modPort_self, Port.takeLane_eq]
    exact h.lapsed
  overrun := by
    rw [State.port_modPort_self, Port.takeLane_eq]
    exact h.overrun
  served := (State.modPort_lastServed ..).trans h.served
  link := ⟨(State.modPort_link ..).trans h.link.link, (State.modPort_frames ..).trans h.link.frames⟩
  lines := sameLines_trans h.lines (sameLines_modPort ..)

/-! ## The fallback of one lane (R130 to R132) -/

theorem portSwept_fallbackOne {p : PortId} (h : PortSwept p s t) (j : LaneId) : PortSwept p s (State.fallbackOne p t j) := by
  unfold State.fallbackOne
  split
  · exact h
  · split
    · split
      · exact portSwept_putLane h _ _
      · split
        case h_1 => exact portSwept_putLane h _ _
        all_goals exact h
      · exact portSwept_takeLane (portSwept_putLane h _ _) _ _
    · exact h

theorem laneViewOf_fallbackOne_of_ne (p : PortId) (s : State) {j : LaneId} (ne : j ≠ i) :
    laneViewOf i (State.fallbackOne p s j) = laneViewOf i s := by
  unfold State.fallbackOne
  split
  · rfl
  · split
    · split
      · exact laneViewOf_putLane_of_ne s ne _
      · split
        case h_1 => exact laneViewOf_putLane_of_ne s ne _
        all_goals rfl
      · next l _ _ _ _ =>
        have taken := laneViewOf_modPort (s := s.putLane j (some { l with claim := none })) (p := p) (f := (·.takeLane j .claimDropped))
          (Port.takeLane_mask ..) (entries_takeLane_of_ne _ ne _)
        exact taken.trans (laneViewOf_putLane_of_ne s ne _)
    · rfl

theorem fallbackOne_of_other {p : PortId} (other : ∀ l cl, s.lane i = some l → l.claim = some cl → cl.port ≠ p) :
    State.fallbackOne p s i = s := by
  unfold State.fallbackOne
  split
  · rfl
  · next l record =>
    refine if_neg fun owned => ?_
    obtain ⟨cl, claim, port⟩ := Option.map_eq_some_iff.1 owned
    exact other l cl record claim port

section
variable {p : PortId} {l : Lane} {key : Half} (record : s.lane i = some l) (claim : l.claim = some { port := p, key := key })

include record claim

theorem fallbackOne_of_hold (fallback : l.cfg.fallback = .hold) : State.fallbackOne p s i = s.putLane i (some l.takeHold) := by
  simp only [State.fallbackOne, record, claim, fallback, Option.map_some, if_true]

theorem fallbackOne_of_stop_active (fallback : l.cfg.fallback = .stop) {h : Option Int} {r : Run} (mode : l.mode = .active h r) :
    State.fallbackOne p s i = s.putLane i (some (l.enterStopping .lapse)) := by
  simp only [State.fallbackOne, record, claim, fallback, mode, Option.map_some, if_true]

theorem fallbackOne_of_stop_rest (fallback : l.cfg.fallback = .stop) (rest : ∀ h r, l.mode ≠ .active h r) :
    State.fallbackOne p s i = s := by
  simp only [State.fallbackOne, record, claim, fallback, Option.map_some, if_true]
  cases mode : l.mode with
  | active h r => exact absurd mode (rest h r)
  | _ => rfl

theorem fallbackOne_of_release (fallback : l.cfg.fallback = .release) :
    State.fallbackOne p s i = (s.putLane i (some { l with claim := none })).modPort p (·.takeLane i .claimDropped) := by
  simp only [State.fallbackOne, record, claim, fallback, Option.map_some, if_true]

end

theorem takeHold_rest {l : Lane} (rest : ∀ r, l.mode ≠ .active none r) : l.takeHold = l := by
  unfold Lane.takeHold
  split
  · next r mode => exact absurd mode (rest r)
  all_goals rfl

theorem takeHold_running {l : Lane} {v : Int} {x : Progress} (mode : l.mode = .active none (.running v x)) :
    l.takeHold = { l with mode := .active (some l.output) (.paused v x) } := by
  unfold Lane.takeHold
  rw [mode]

theorem takeHold_unmoved {l : Lane} {r : Run} (mode : l.mode = .active none r) (other : ∀ v x, r ≠ .running v x) :
    l.takeHold = { l with mode := .active (some l.output) r } := by
  unfold Lane.takeHold
  rw [mode]
  cases r with
  | running v x => exact absurd rfl (other v x)
  | _ => rfl

/-! ## The expiry (R129) -/

theorem lapse_port (p : Port) : PortButSet { p with lease := { p.lease with lapsed := true, timer := none } } p.lapse p.lapse.attn := by
  unfold Port.lapse Port.takeLapsed
  split
  · exact portButSet_attn _ _
  · exact portButSet_refl _

theorem lapse_attn (p : Port) : p.lapse.attn.lapsed = (p.mask.getLsbD 8 || p.attn.lapsed) ∧ p.lapse.attn.overrun = p.attn.overrun
    ∧ ∀ i : LaneId, p.lapse.attn.lanes[i] = p.attn.lanes[i] := by
  cases mask : p.mask.getLsbD 8 with
  | true =>
    have lapse : p.lapse = { p with lease := { p.lease with lapsed := true, timer := none }, attn := { p.attn with lapsed := true } } :=
      takeLapsed_of_enabled mask
    rw [lapse]
    exact ⟨rfl, rfl, fun _ => rfl⟩
  | false =>
    have lapse : p.lapse = { p with lease := { p.lease with lapsed := true, timer := none } } := takeLapsed_of_masked mask
    rw [lapse]
    exact ⟨rfl, rfl, fun _ => rfl⟩

theorem laneViewOf_lapse (p : PortId) (s : State) : laneViewOf i (s.modPort p Port.lapse) = laneViewOf i s :=
  laneViewOf_modPort (lapse_port _).mask ((lapse_attn _).2.2 i)

theorem exec_leaseExpiry {p : PortId} {n : Nat} (running : s.held = false) (timer : (s.port p).lease.timer = some n) :
    exec (.leaseExpiry p) s = .next (allLanes.foldl (State.fallbackOne p) (s.modPort p Port.lapse)) := by
  change execLeaseExpiry p s = _
  unfold execLeaseExpiry
  rw [whenRunning_of_running running, timer]

/-- A lane after the expiry, by what its own fallback makes of it. -/
theorem laneViewOf_expiry {p : PortId} {v : LaneView}
    (own : ∀ u, laneViewOf i u = laneViewOf i s → laneViewOf i (State.fallbackOne p u i) = v) :
    laneViewOf i (allLanes.foldl (State.fallbackOne p) (s.modPort p Port.lapse)) = v :=
  laneViewOf_sweep (fun u _ ne => laneViewOf_fallbackOne_of_ne p u ne) fun u same => own u (same.trans (laneViewOf_lapse p s))

theorem poolLaw_leaseExpiry {p : PortId} (law : PoolLaw s) (h : exec (.leaseExpiry p) s = .next t) : PoolLaw t := by
  have trail := trail_leaseExpiry h
  clear h
  induction trail with
  | refl => exact law
  | tail _ change ih => exact TableLaws.poolLaw_change _ _ ih change

end

/-- Settles O41: the port by the sweep's invariant, each lane by its own fallback. -/
theorem leaseExpiryAppliesFallbacks : Obligations.LeaseExpiryAppliesFallbacks := by
  intro s p n running timer
  have event := exec_leaseExpiry running timer
  have swept : PortSwept p (s.modPort p Port.lapse) (allLanes.foldl (State.fallbackOne p) (s.modPort p Port.lapse)) :=
    foldl_keeps (PortSwept p _) (fun _ j h => portSwept_fallbackOne h j) allLanes _ (portSwept_refl p _)
  obtain ⟨other, port, lapsed, overrun, served, ⟨link, frames⟩, lines⟩ := swept
  rw [State.port_modPort_self] at port lapsed overrun
  rw [State.port_modPort_of_ne _ _ (otherPort_ne p)] at other
  obtain ⟨lapsed', overrun', -⟩ := lapse_attn (s.port p)
  have start := lapse_port (s.port p)
  refine ⟨_, event, port.lease.trans start.lease, lapsed.trans lapsed', overrun.trans overrun', port.mask.trans start.mask,
    port.slots.trans start.slots, port.order.trans start.order, port.dup.trans start.dup, port.discard.trans start.discard,
    port.strikes.trans start.strikes, port.barred.trans start.barred, other, served.trans (State.modPort_lastServed ..),
    ⟨link.trans (State.modPort_link ..), frames.trans (State.modPort_frames ..)⟩, sameLines_trans (sameLines_modPort ..) lines,
    fun law => poolLaw_leaseExpiry law event, fun i => ⟨fun unowned => ?_, fun l key record claim => ?_⟩⟩
  · have view := laneViewOf_expiry (i := i) (s := s) (p := p) (v := laneViewOf i s) fun u same => by
      rw [fallbackOne_of_other (s := u) fun l cl record => unowned l cl ((record_of_laneViewOf same).symm.trans record), same]
    exact ⟨record_of_laneViewOf view, entries_of_laneViewOf view p⟩
  · have found : ∀ u, laneViewOf i u = laneViewOf i s → u.lane i = some l :=
      fun u same => (record_of_laneViewOf same).trans record
    have written : ∀ {m : Lane}, (∀ u, u.lane i = some l → State.fallbackOne p u i = u.putLane i (some m)) →
        (allLanes.foldl (State.fallbackOne p) (s.modPort p Port.lapse)).lane i = some m
          ∧ ((allLanes.foldl (State.fallbackOne p) (s.modPort p Port.lapse)).port p).attn.lanes[i] = (s.port p).attn.lanes[i] := by
      intro m own
      have view := laneViewOf_expiry (i := i) (s := s) (p := p) (v := { laneViewOf i s with record := some m }) fun u same => by
        rw [own u (found u same), laneViewOf_putLane, same]
      exact ⟨record_of_laneViewOf view, entries_of_laneViewOf view p⟩
    have stands : (∀ u, u.lane i = some l → State.fallbackOne p u i = u) →
        (allLanes.foldl (State.fallbackOne p) (s.modPort p Port.lapse)).lane i = some l
          ∧ ((allLanes.foldl (State.fallbackOne p) (s.modPort p Port.lapse)).port p).attn.lanes[i] = (s.port p).attn.lanes[i] := by
      intro own
      have view := laneViewOf_expiry (i := i) (s := s) (p := p) (v := laneViewOf i s) fun u same => by
        rw [own u (found u same), same]
      exact ⟨(record_of_laneViewOf view).trans record, entries_of_laneViewOf view p⟩
    refine ⟨fun kept => ?_, fun hold => ?_, fun stop => ?_, fun release => ?_⟩
    · obtain hold | stop := kept
      · exact (written fun u lane => fallbackOne_of_hold lane claim hold).2
      · by_cases active : ∃ h r, l.mode = .active h r
        · obtain ⟨h, r, mode⟩ := active
          exact (written fun u lane => fallbackOne_of_stop_active lane claim stop mode).2
        · exact (stands fun u lane => fallbackOne_of_stop_rest lane claim stop fun h r mode => active ⟨h, r, mode⟩).2
    · obtain ⟨lane, -⟩ := written fun u lane => fallbackOne_of_hold lane claim hold
      exact ⟨fun v x mode => takeHold_running mode ▸ lane, fun r mode other => takeHold_unmoved mode other ▸ lane,
        fun rest => takeHold_rest rest ▸ lane⟩
    · exact ⟨fun h r mode => (written fun u lane => fallbackOne_of_stop_active lane claim stop mode).1,
        fun rest => (stands fun u lane => fallbackOne_of_stop_rest lane claim stop rest).1⟩
    · have view := laneViewOf_expiry (i := i) (s := s) (p := p)
        (v := { laneViewOf i s with
          record := some { l with claim := none }
          entries := fun q => if q = p then (if (s.port p).mask.getLsbD 7 then { (s.port p).attn.lanes[i] with claimDropped := true }
            else (s.port p).attn.lanes[i]) else (s.port q).attn.lanes[i] }) fun u same => by
        rw [fallbackOne_of_release (found u same) claim release]
        have mask : ∀ q, (u.port q).mask = (s.port q).mask := mask_of_laneViewOf same
        have entries : ∀ q, (u.port q).attn.lanes[i] = (s.port q).attn.lanes[i] := entries_of_laneViewOf same
        simp only [laneViewOf, State.lane_modPort, State.lane_putLane_self, LaneView.mk.injEq, true_and]
        constructor
        · funext q
          rw [State.port_modPort, State.port_putLane, State.port_putLane]
          split
          · next is =>
            rw [Port.takeLane_mask, mask, is]
          · exact mask q
        · funext q
          rw [State.port_modPort, State.port_putLane, State.port_putLane]
          split
          · rw [entries_takeLane, mask, entries]
            rfl
          · exact entries q
      exact ⟨record_of_laneViewOf view, (entries_of_laneViewOf view p).trans (if_pos rfl)⟩

end Sys2Proof.Sweeps
end

section
/-! PROOF. How a transaction on the drive link starts and ends (O42, O43). -/

namespace Sys2Proof.LinkSteps

open Sys2Proof.Machine Sys2Proof.Safety Sys2Proof.Steps Sys2Proof.Responses

/-! ## The start of a transaction (R163, R168) -/

/-- The state in which an entry's frame is sent. -/
def sendingState (s : State) (e : Entry) (rest : List Entry) (l : Lane) : State :=
  { s with frames := rest
           link := .sending { lane := e.lane, kind := e.kind, address := l.cfg.address, stale := false } (frameChars e.kind l) }

section
variable {s : State}

theorem startTransaction_of_idle {e : Entry} {rest : List Entry} {l : Lane} (idle : s.link = .idle) (frames : s.frames = e :: rest)
    (record : s.lane e.lane = some l) : s.startTransaction = sendingState s e rest l := by
  unfold State.startTransaction
  simp only [idle, frames, record]
  rfl

theorem exec_transactionStart (running : s.held = false) : exec .transactionStart s = .next s.startTransaction :=
  whenRunning_of_running running State.startTransaction

theorem exec_guardEnd (running : s.held = false) (guard : s.link = .guarding) :
    exec .guardEnd s = .next { s with link := .idle }.startTransaction := by
  change execGuardEnd s = _
  unfold execGuardEnd
  rw [whenRunning_of_running running, guard]

theorem exec_linkFrameSent {x : Txn} {chars : List Byte} (running : s.held = false) (sending : s.link = .sending x chars) :
    exec .linkFrameSent s = .next { s with link := .awaiting x false } := by
  change execLinkFrameSent s = _
  unfold execLinkFrameSent
  rw [whenRunning_of_running running, sending]

theorem exec_replyBegun {x : Txn} {b : Bool} (running : s.held = false) (awaiting : s.link = .awaiting x b) :
    exec .replyBegun s = .next { s with link := .awaiting x true } := by
  change execReplyBegun s = _
  unfold execReplyBegun
  rw [whenRunning_of_running running, awaiting]

/-! ## The frame of a lane (R168) -/

theorem frameChars_ref_moving {l : Lane} (moving : (∃ h r, l.mode = .active h r) ∨ ∃ k, l.mode = .stopping k) :
    frameChars .ref l = linkChars l.cfg.address 0x61 (s16Bytes l.output) := by
  obtain ⟨h, r, mode⟩ | ⟨k, mode⟩ := moving
  all_goals
    unfold frameChars
    rw [mode]
    rfl

theorem frameChars_ref_rest {l : Lane} (inactive : ∀ h r, l.mode ≠ .active h r) (running : ∀ k, l.mode ≠ .stopping k) :
    frameChars .ref l = linkChars l.cfg.address 0x60 [0#8, 0#8] := by
  unfold frameChars
  cases mode : l.mode with
  | active h r => exact absurd mode (inactive h r)
  | stopping k => exact absurd mode (running k)
  | _ => rfl

/-! ## The levels of a line while characters are sent (R162) -/

/-- The line shows each character in ten bit times. -/
theorem levelAt_nth {chars : List Byte} {n : Nat} {c : Byte} (at_n : chars[n]? = some c) :
    ∃ rest, ∀ j, levelAt chars (10 * n + j) = levelAt (c :: rest) j := by
  induction chars generalizing n with
  | nil => cases at_n
  | cons d chars ih =>
    cases n with
    | zero =>
      cases at_n
      exact ⟨chars, fun j => by rw [Nat.mul_zero, Nat.zero_add]⟩
    | succ n =>
      obtain ⟨rest, later⟩ := ih at_n
      refine ⟨rest, fun j => ?_⟩
      rw [← later j]
      have bits : (charBits d).length = 10 := by simp [charBits]
      unfold levelAt
      rw [List.flatMap_cons, List.getD_append_right _ _ _ _ (by omega), bits]
      congr 1
      omega

theorem dltx_sending {x : Txn} {chars : List Byte} (sending : s.link = .sending x chars) (n : Nat) : s.dltx n = levelAt chars n := by
  unfold State.dltx
  rw [sending]

/-! ## The end of a transaction (R162, R171) -/

theorem exec_driveReply {x : Txn} {b : Bool} (running : s.held = false) (awaiting : s.link = .awaiting x b) (chars : List Byte) :
    exec (.driveReply chars) s = .next (s.endTransaction x (validReply x chars)) := by
  change execDriveReply chars s = _
  unfold execDriveReply
  rw [whenRunning_of_running running, awaiting]

/-- The events that end a transaction with no valid reply. -/
theorem exec_endsWithout {x : Txn} {b : Bool} {e : Instr} (running : s.held = false) (awaiting : s.link = .awaiting x b)
    (ends : EndsWithout e x b) : exec e s = .next (s.endTransaction x none) := by
  unfold EndsWithout at ends
  split at ends
  · change execReplyWindowTimeout s = _
    unfold execReplyWindowTimeout
    rw [whenRunning_of_running running, awaiting, ends]
  · change execReplyBroken s = _
    unfold execReplyBroken
    rw [whenRunning_of_running running, awaiting]
  · rw [exec_driveReply running awaiting, ends]
  · exact ends.elim

/-- The state in which the link's guard pause has begun. -/
def guardState (s : State) : State := { s with link := .guarding }

theorem lane_guardState (s : State) (i : LaneId) : (guardState s).lane i = s.lane i := rfl

theorem port_guardState (s : State) (p : PortId) : (guardState s).port p = s.port p := by cases p <;> rfl

theorem linkGuards_guardState (s : State) : LinkGuards s (guardState s) := ⟨rfl, by constructor <;> rfl, rfl⟩

theorem sameTable_guardState (s : State) : SameTable s (guardState s) := ⟨fun _ => rfl, rfl⟩

theorem samePorts_guardState (s : State) : SamePorts s (guardState s) := ⟨rfl, rfl, rfl⟩

theorem endTransaction_of_stale {x : Txn} (stale : x.stale = true) (r : Option Reply) : s.endTransaction x r = guardState s := by
  unfold State.endTransaction
  exact if_pos stale

section
variable {x : Txn} {l : Lane} (fresh : x.stale = false) (record : s.lane x.lane = some l)

include fresh record

theorem endTransaction_of_ref (kind : x.kind = .ref) (service : ∀ m, l.mode ≠ .defining m) (r : Option Reply) :
    s.endTransaction x r = (guardState s).refEnd x.lane l r := by
  have found : State.lane { s with link := .guarding } x.lane = some l := record
  unfold State.endTransaction
  simp only [fresh, Bool.false_eq_true, if_false, found, kind]
  cases mode : l.mode with
  | defining m => exact absurd mode (service m)
  | _ => rfl

theorem endTransaction_of_clear {k : TripCause} {n : Nat} {res : Bool} {m : Marker} (kind : x.kind = .clear)
    (mode : l.mode = .tripped k n res (some m)) (r : Option Reply) :
    s.endTransaction x r = (guardState s).clearEnd x.lane l m r := by
  have found : State.lane { s with link := .guarding } x.lane = some l := record
  unfold State.endTransaction
  simp only [fresh, Bool.false_eq_true, if_false, found, kind, mode]
  rfl

theorem endTransaction_of_ident {n : Nat} {m : Marker} (kind : x.kind = .ident n) (mode : l.mode = .defining m) (r : Option Reply) :
    s.endTransaction x r = (guardState s).identEnd x.lane l m n r := by
  have found : State.lane { s with link := .guarding } x.lane = some l := record
  unfold State.endTransaction
  simp only [fresh, Bool.false_eq_true, if_false, found, kind, mode]
  rfl

end
end

/-- Settles O42: the start and the other phases by their events, the line by `levelAt_nth`. -/
theorem transactionsStart : Obligations.TransactionsStart := by
  refine ⟨fun s e rest l running frames record => ⟨fun idle => ?_, fun guard => ?_⟩, fun s x running => ⟨fun chars => ?_, fun b => ?_, fun guard empty => ?_⟩,
    fun s => ⟨fun x chars sending => ⟨?_, fun n c at_n => ?_⟩, fun other => ?_⟩⟩
  · have event := (exec_transactionStart running).trans (congrArg _ (startTransaction_of_idle idle frames record))
    refine ⟨_, frameChars e.kind l, event, rfl, rfl, fun kind moving => ?_, fun kind inactive unstopped => ?_, fun n kind => ?_, fun kind => ?_,
      ⟨fun _ => rfl, rfl⟩, ⟨rfl, rfl, rfl⟩, by constructor <;> rfl⟩
    · rw [kind, frameChars_ref_moving moving]
    · rw [kind, frameChars_ref_rest inactive unstopped]
    · rw [kind]
      rfl
    · rw [kind]
      rfl
  · have start : State.startTransaction { s with link := .idle } = sendingState { s with link := .idle } e rest l :=
      startTransaction_of_idle rfl frames record
    exact ⟨_, _, (exec_guardEnd running guard).trans (congrArg _ start),
      (exec_transactionStart (s := { s with link := .idle }) running).trans (congrArg _ start), rfl, rfl, ⟨fun _ => rfl, rfl⟩, ⟨rfl, rfl, rfl⟩,
      by constructor <;> rfl⟩
  · exact exec_linkFrameSent running
  · exact exec_replyBegun running
  · rw [exec_guardEnd running guard]
    unfold State.startTransaction
    simp only [empty]
  · unfold State.dlde
    rw [sending]
  · obtain ⟨rest, line⟩ := levelAt_nth at_n
    obtain ⟨start, bits, stop⟩ := levelAt_char c rest
    exact ⟨(dltx_sending sending _).trans ((line 0).trans start),
      fun j lt => (dltx_sending sending _).trans ((congrArg (levelAt chars) (Nat.add_assoc ..)).trans ((line (1 + j)).trans (bits j lt))),
      (dltx_sending sending _).trans ((line 9).trans stop)⟩
  · unfold State.dlde State.dltx
    cases link : s.link with
    | sending x chars => exact absurd link (other x chars)
    | _ => exact ⟨rfl, fun _ => rfl⟩

/-- Settles O43. -/
theorem staleTransactionReachesNothing : Obligations.StaleTransactionReachesNothing := by
  intro s x b e running awaiting stale ends
  have event : exec e s = .next (guardState s) := by
    obtain without | ⟨chars, rfl⟩ := ends
    · rw [exec_endsWithout running awaiting without, endTransaction_of_stale stale]
    · rw [exec_driveReply running awaiting, endTransaction_of_stale stale]
  exact ⟨_, event, linkGuards_guardState s, sameTable_guardState s, samePorts_guardState s, rfl⟩

end Sys2Proof.LinkSteps
end

section
/-! PROOF. What the end of a transaction does to its own lane (R172 to R176): O47, and the cases without a cascade of the others. -/

namespace Sys2Proof.LaneEnds

open Sys2Proof.Machine Sys2Proof.Safety Sys2Proof.Steps Sys2Proof.LinkSteps Sys2Proof.LaneRequests Sys2Proof.Updates

/-! ## One lane's record and its reports -/

/-- A transaction has ended, one lane's record was written with its queue kept, its reports were made, and nothing else was reached. -/
structure LaneEnd (s t : State) (i : LaneId) (l : Lane) (rs : List LaneReport) : Prop where
  guards : LinkGuards s t
  frames : t.frames = s.frames
  record : t.lane i = some l
  others : ∀ j, j ≠ i → t.lane j = s.lane j
  pool : t.poolFree = s.poolFree
  ports : ∀ p, PortButSet (s.port p) (t.port p) (setAfter s i rs p)

section
variable {s t : State} {i : LaneId} {l m : Lane} {rs : List LaneReport}

theorem laneEnd_guardState (record : s.lane i = some l) : LaneEnd s (guardState s) i l [] where
  guards := linkGuards_guardState s
  frames := rfl
  record := record
  others _ _ := rfl
  pool := rfl
  ports p := by
    rw [port_guardState, setAfter_nil]
    exact portButSet_refl _

theorem linkGuards_putLane (guards : LinkGuards s t) (i : LaneId) (o : Option Lane) : LinkGuards s (t.putLane i o) :=
  ⟨guards.link, sameLines_trans guards.lines (by constructor <;> rfl), guards.served⟩

theorem linkGuards_report (guards : LinkGuards s t) (i : LaneId) (r : LaneReport) : LinkGuards s (t.report i r) :=
  ⟨(t.report_link i r).trans guards.link, sameLines_trans guards.lines (sameLines_report t i r),
    (t.report_lastServed i r).trans guards.served⟩

theorem linkGuards_modPort (guards : LinkGuards s t) (p : PortId) (f : Port → Port) : LinkGuards s (t.modPort p f) :=
  ⟨(State.modPort_link ..).trans guards.link, sameLines_trans guards.lines (sameLines_modPort ..),
    (State.modPort_lastServed ..).trans guards.served⟩

/-- The record is written again with the same queue. -/
theorem LaneEnd.put (h : LaneEnd s t i l rs) (queue : m.queue = l.queue) : LaneEnd s (t.putLane i (some m)) i m rs where
  guards := linkGuards_putLane h.guards i _
  frames := h.frames
  record := State.lane_putLane_self ..
  others j other := (State.lane_putLane_of_ne _ _ other).trans (h.others j other)
  pool := by
    rw [State.putLane_poolFree, h.record]
    change t.poolFree + l.queue.length - m.queue.length = _
    rw [queue, Nat.add_sub_cancel, h.pool]
  ports p := by
    rw [State.port_putLane]
    exact h.ports p

theorem entriesAfter_concat (s : State) (i : LaneId) (rs : List LaneReport) (r : LaneReport) (p : PortId) :
    entriesAfter s i (rs ++ [r]) p = if routed s i p && (s.port p).mask.getLsbD r.kind then (entriesAfter s i rs p).take r
      else entriesAfter s i rs p := by
  unfold entriesAfter
  rw [List.foldl_append]
  rfl

theorem entries_setAfter (s : State) (i : LaneId) (rs : List LaneReport) (p : PortId) :
    (setAfter s i rs p).lanes[i] = entriesAfter s i rs p := (AttnSet.lanes_onLane ..).trans (if_pos rfl)

/-- One more report of the lane. -/
theorem LaneEnd.report (h : LaneEnd s t i m rs) (record : s.lane i = some l) (claim : m.claim = l.claim) (r : LaneReport) :
    LaneEnd s (t.report i r) i m (rs ++ [r]) where
  guards := linkGuards_report h.guards i r
  frames := (t.report_frames i r).trans h.frames
  record := (t.lane_report i i r).trans h.record
  others j other := (t.lane_report i j r).trans (h.others j other)
  pool := (t.report_poolFree i r).trans h.pool
  ports p := by
    have routes : routed t i p = routed s i p := by
      refine routed_congr ?_
      rw [h.record, record]
      exact claim
    have set : ((t.report i r).port p).attn = setAfter s i (rs ++ [r]) p := by
      rw [report_attn, (h.ports p).attn, (h.ports p).mask, routes]
      unfold setAfter
      rw [onLane_onLane, entriesAfter_concat]
      rfl
    exact set ▸ portButSet_trans (h.ports p) (portButSet_report t i r p)

theorem LaneEnd.writes (h : LaneEnd s t i m rs) (record : s.lane i = some l) (queue : m.queue = l.queue) : WritesLane s t i (some m) := by
  refine ⟨h.record, h.others, h.pool.trans ?_⟩
  rw [record]
  change _ = s.poolFree + l.queue.length - m.queue.length
  rw [queue, Nat.add_sub_cancel]

theorem LaneEnd.attn (h : LaneEnd s t i m rs) (p : PortId) : (t.port p).attn = setAfter s i rs p := (h.ports p).attn

theorem portButSet_eq {p q : Port} (h : PortButSet p q p.attn) : q = p := by
  obtain ⟨slots, order, dup, discard, strikes, barred, lease, mask, attn⟩ := h
  cases p
  cases q
  simp_all

theorem LaneEnd.samePorts (h : LaneEnd s t i m []) : SamePorts s t := by
  have same : ∀ p, t.port p = s.port p := fun p => portButSet_eq (setAfter_nil s i p ▸ h.ports p)
  exact ⟨same .s, same .u, h.guards.served⟩

end

/-! ## The answer of a long request (R156) -/

theorem answerLong_attn (p : Port) (i : LaneId) (k : SlotId) (r : Result) (payload : List Byte) :
    (p.answerLong i k r payload).attn = p.attn := by
  unfold Port.answerLong
  split
  · rfl
  · exact Port.answer_attn p k r payload

theorem answerLong_of_listed {p : Port} {i : LaneId} (listed : i ∈ p.discard) (k : SlotId) (r : Result) (payload : List Byte) :
    p.answerLong i k r payload = { p with discard := p.discard.filter (· != i) } := if_pos (List.contains_iff_mem.2 listed)

theorem answerLong_of_unlisted {p : Port} {i : LaneId} (unlisted : i ∉ p.discard) (k : SlotId) (r : Result) (payload : List Byte) :
    p.answerLong i k r payload = p.answer k r payload := if_neg fun listed => unlisted (List.contains_iff_mem.1 listed)

theorem slots_answer_of_ne (p : Port) {k j : SlotId} (ne : j ≠ k) (r : Result) (payload : List Byte) :
    (p.answer k r payload).slots[j] = p.slots[j] := by
  unfold Port.answer
  split
  · exact (Port.slots_setSlot ..).trans (if_neg ne)
  all_goals rfl

theorem answer_of_executing {p : Port} {k : SlotId} {q : Request} {f : Bool} (executing : p.slots[k] = .executing q f) (r : Result)
    (payload : List Byte) : (p.answer k r payload).slots[k] = .answered
        { seq := q.seq, code := q.code, result := r, lapsed := f, duplicate := false, payload := payload }
      ∧ (p.answer k r payload).dup = p.dup.map (DupStore.fill k { result := r, payload := payload }) := by
  unfold Port.answer
  rw [executing]
  exact ⟨Port.slots_setSlot_self p k _, rfl⟩

/-- The answer reaches the port that the marker names. -/
theorem answersLong_modPort {s u : State} {i : LaneId} {m : Marker} {a : AttnSet} (h : PortButSet (s.port m.port) (u.port m.port) a)
    (r : Result) (payload : List Byte) : AnswersLong s (u.modPort m.port (·.answerLong i m.slot r payload)) i m r payload := by
  unfold AnswersLong
  rw [State.port_modPort_self]
  split
  · next listed =>
    rw [answerLong_of_listed (by rwa [h.discard]), h.discard]
    exact ⟨h.slots, h.dup, rfl⟩
  · next unlisted =>
    rw [answerLong_of_unlisted (by rwa [h.discard])]
    refine ⟨(Port.answer_discard ..).trans h.discard, fun k ne => ?_, fun q f executing => ?_⟩
    · rw [slots_answer_of_ne _ ne, h.slots]
    · obtain ⟨slot, dup⟩ := answer_of_executing (p := u.port m.port) (k := m.slot) (by rw [h.slots, executing]) r payload
      exact ⟨slot, dup.trans (by rw [h.dup])⟩

/-- A pending CLEAR ends (R111). -/
theorem LaneEnd.endClear {s u : State} {i : LaneId} {l : Lane} {rs : List LaneReport} (h : LaneEnd s u i l rs) (m : Marker) (r : Result) :
    LinkGuards s (u.endClear i m r) ∧ (u.endClear i m r).frames = s.frames ∧ AnswersLong s (u.endClear i m r) i m r []
      ∧ ∃ w, u.endClear i m r = w.modPort m.port (·.answerLong i m.slot r []) ∧ LaneEnd s w i { l with mode := l.mode.dropClear } rs := by
  have put : LaneEnd s (u.putLane i (some { l with mode := l.mode.dropClear })) i { l with mode := l.mode.dropClear } rs := h.put rfl
  have clear : u.endClear i m r
      = (u.putLane i (some { l with mode := l.mode.dropClear })).modPort m.port (·.answerLong i m.slot r []) := by
    unfold State.endClear
    rw [h.record]
  rw [clear]
  exact ⟨linkGuards_modPort put.guards _ _, (State.modPort_frames ..).trans put.frames, answersLong_modPort (put.ports m.port) r [], _, rfl, put⟩

theorem writes_modPort {s t : State} {i : LaneId} {o : Option Lane} (h : WritesLane s t i o) (p : PortId) (f : Port → Port) :
    WritesLane s (t.modPort p f) i o :=
  ⟨(State.lane_modPort ..).trans h.lane, fun j ne => (State.lane_modPort ..).trans (h.others j ne), (State.modPort_poolFree ..).trans h.pool⟩

theorem attn_answered (t : State) (i : LaneId) (q : PortId) (k : SlotId) (r : Result) (payload : List Byte) (p : PortId) :
    ((t.modPort q (·.answerLong i k r payload)).port p).attn = (t.port p).attn := by
  rw [State.port_modPort]
  split
  · next same => rw [same, answerLong_attn]
  · rfl

/-! ## IDENT transactions (R12, R13, R175, R176) -/

theorem identEnd_of_reply (s : State) (i : LaneId) (l : Lane) (m : Marker) (n : Nat) (r : Reply) : s.identEnd i l m n (some r)
    = (s.putLane i (some (l.identified r))).modPort m.port (·.answerLong i m.slot .ok [r.driveType]) := rfl

theorem identEnd_of_try {n : Nat} (more : n < 3) (s : State) (i : LaneId) (l : Lane) (m : Marker) :
    s.identEnd i l m n none = s.pushControl i (.ident (n + 1)) := if_pos more

theorem identEnd_of_third {n : Nat} (last : 3 ≤ n) (s : State) (i : LaneId) (l : Lane) (m : Marker) :
    s.identEnd i l m n none = (s.enterVacant i).modPort m.port (·.answerLong i m.slot .noDrive []) := if_neg (by omega)

/-- Settles O47: the reply, the next try, or the entry to VACANT. -/
theorem identOutcomes : Obligations.IdentOutcomes := by
  intro s x b n l m running awaiting fresh kind record mode
  refine ⟨fun chars r valid => ?_, fun e ends => ⟨fun more => ?_, fun last => ?_⟩⟩
  · have event := exec_driveReply running awaiting chars
    rw [valid, endTransaction_of_ident fresh record kind mode, identEnd_of_reply] at event
    have put : LaneEnd s ((guardState s).putLane x.lane (some (l.identified r))) x.lane (l.identified r) [] :=
      (laneEnd_guardState record).put rfl
    refine ⟨_, event, linkGuards_modPort put.guards _ _, writes_modPort (put.writes record rfl) _ _, answersLong_modPort (put.ports m.port) _ _,
      (State.modPort_frames ..).trans put.frames, ?_⟩
    rw [State.port_modPort_of_ne _ _ (otherPort_ne m.port), State.port_putLane, port_guardState]
  · have event := exec_endsWithout running awaiting ends
    rw [endTransaction_of_ident fresh record kind mode, identEnd_of_try more] at event
    exact ⟨_, event, ⟨rfl, by constructor <;> rfl, rfl⟩, ⟨fun _ => rfl, rfl⟩, ⟨rfl, rfl, rfl⟩, rfl⟩
  · have event := exec_endsWithout running awaiting ends
    rw [endTransaction_of_ident fresh record kind mode, identEnd_of_third last] at event
    have vacant : LinkGuards s ((guardState s).enterVacant x.lane) := ⟨rfl, by constructor <;> rfl, rfl⟩
    have port : ∀ p, ((guardState s).enterVacant x.lane).port p = (s.port p).dropLane x.lane := fun p => by
      rw [enterVacant_port, port_guardState]
    have dropped : PortButSet (s.port m.port) (((guardState s).enterVacant x.lane).port m.port) ((s.port m.port).dropLane x.lane).attn := by
      rw [port]
      exact ⟨rfl, rfl, rfl, rfl, rfl, rfl, rfl, rfl, rfl⟩
    refine ⟨_, event, linkGuards_modPort vacant _ _, writes_modPort ⟨?_, fun j ne => ?_, ?_⟩ _ _, answersLong_modPort dropped _ _,
      (State.modPort_frames ..).trans (State.enterVacant_frames ..), fun p => ?_⟩
    · rw [State.lane_enterVacant, if_pos rfl]
    · rw [State.lane_enterVacant, if_neg ne, lane_guardState]
    · rw [State.enterVacant_poolFree]
      rfl
    · rw [attn_answered, port]
      exact (AttnSet.lanes_onLane ..).trans (if_pos rfl)

/-! ## Misses (R173, R104) -/

section
variable {s : State} {i : LaneId} {l : Lane} (record : s.lane i = some l)

include record

theorem laneEnd_miss_low (low : l.misses < 2) : LaneEnd s ((guardState s).miss i l) i { l with misses := l.misses + 1 } [] := by
  unfold State.miss
  rw [if_pos low]
  exact (laneEnd_guardState record).put rfl

theorem laneEnd_miss_high (high : 3 ≤ l.misses) : LaneEnd s ((guardState s).miss i l) i l [] := by
  unfold State.miss
  rw [if_neg (by omega), if_neg (by omega)]
  exact laneEnd_guardState record

/-- The third miss drops the view and reports LINK_LOST (R104). -/
theorem laneEnd_linkLost : LaneEnd s (((guardState s).putLane i (some { l with misses := 3, view := none })).report i .linkLost) i
    { l with misses := 3, view := none } [.linkLost] :=
  LaneEnd.report (rs := []) ((laneEnd_guardState record).put (m := { l with misses := 3, view := none }) rfl) record rfl .linkLost

omit record in
theorem miss_third (third : l.misses = 2) : (guardState s).miss i l = (guardState s).linkLoss i := by
  unfold State.miss
  rw [if_neg (by omega), if_pos third]

theorem linkLoss_standby (mode : l.mode = .standby) : (guardState s).linkLoss i
    = ((guardState s).putLane i (some { l with misses := 3, view := none })).report i .linkLost := by
  unfold State.linkLoss
  rw [lane_guardState, record]
  dsimp only
  rw [mode]

theorem linkLoss_moving (moving : l.mode.isMoving = true) : (guardState s).linkLoss i
    = (((guardState s).putLane i (some { l with misses := 3, view := none })).report i .linkLost).enterTripped i .link 0 := by
  unfold State.linkLoss
  rw [lane_guardState, record]
  dsimp only
  cases mode : l.mode with
  | active h r => rfl
  | stopping k => rfl
  | _ =>
    rw [mode] at moving
    cases moving

/-- In TRIPPED the third miss makes the cause LINK and keeps a pending CLEAR (R89). -/
theorem laneEnd_linkLoss_tripped {k : TripCause} {n : Nat} {res : Bool} {m : Option Marker} (mode : l.mode = .tripped k n res m) :
    LaneEnd s ((guardState s).linkLoss i) i { l with misses := 3, view := none, mode := .tripped .link 0 false m }
      [.linkLost, .tripped .link 0] := by
  have loss : (guardState s).linkLoss i
      = ((((guardState s).putLane i (some { l with misses := 3, view := none })).report i .linkLost).putLane i
          (some { l with misses := 3, view := none, mode := .tripped .link 0 false m })).report i (.tripped .link 0) := by
    unfold State.linkLoss
    rw [lane_guardState, record]
    dsimp only
    rw [mode]
    rfl
  rw [loss]
  exact LaneEnd.report (rs := [.linkLost])
    ((laneEnd_linkLost record).put (m := { l with misses := 3, view := none, mode := .tripped .link 0 false m }) rfl) record rfl (.tripped .link 0)

/-! ## Valid replies within TRIPPED (R102, R89) -/

/-- The state after steps 1 and 2 of R172. -/
def heardState (s : State) (i : LaneId) (l : Lane) (v : DriveView) : State := (guardState s).putLane i (some (l.heard v))

theorem laneEnd_heard (v : DriveView) : LaneEnd s (heardState s i l v) i (l.heard v) [] := (laneEnd_guardState record).put rfl

omit record in
theorem lane_heardState (s : State) (i : LaneId) (l : Lane) (v : DriveView) : (heardState s i l v).lane i = some (l.heard v) :=
  State.lane_putLane_self ..

omit record in
/-- An unresolved DRIVE lane stays as it is (R102). -/
theorem tripReply_drive {n : Nat} {m : Option Marker} (mode : l.mode = .tripped .drive n false m) (v : DriveView) (code : Nat) :
    (heardState s i l v).tripReply i code = heardState s i l v := by
  unfold State.tripReply
  rw [lane_heardState]
  dsimp only [Lane.heard]
  rw [mode]

/-- Another TRIPPED lane becomes an unresolved DRIVE lane, a pending CLEAR kept (R89). -/
theorem laneEnd_tripReply {k : TripCause} {n : Nat} {res : Bool} {m : Option Marker} (mode : l.mode = .tripped k n res m)
    (other : k = .drive → res = true) (v : DriveView) (code : Nat) : LaneEnd s ((heardState s i l v).tripReply i code) i
      { l with view := some v, misses := 0, mode := .tripped .drive code false m } [.tripped .drive code] := by
  have trip : (heardState s i l v).tripReply i code = ((heardState s i l v).putLane i
      (some { l with view := some v, misses := 0, mode := .tripped .drive code false m })).report i (.tripped .drive code) := by
    unfold State.tripReply
    rw [lane_heardState]
    dsimp only [Lane.heard]
    rw [mode]
    cases k with
    | drive =>
      rw [other rfl]
      rfl
    | link => rfl
    | cascade => rfl
  rw [trip]
  exact LaneEnd.report (rs := [])
    ((laneEnd_heard record v).put (m := { l with view := some v, misses := 0, mode := .tripped .drive code false m }) rfl) record rfl _

omit record in
theorem tripReply_standby (mode : l.mode = .standby) (v : DriveView) (code : Nat) :
    (heardState s i l v).tripReply i code = heardState s i l v := by
  unfold State.tripReply
  rw [lane_heardState]
  dsimp only [Lane.heard]
  rw [mode]

omit record in
theorem tripReply_moving (moving : l.mode.isMoving = true) (v : DriveView) (code : Nat) :
    (heardState s i l v).tripReply i code = (heardState s i l v).enterTripped i .drive code := by
  unfold State.tripReply
  rw [lane_heardState]
  dsimp only [Lane.heard]
  cases mode : l.mode with
  | active h r => rfl
  | stopping k => rfl
  | _ =>
    rw [mode] at moving
    cases moving

end

end Sys2Proof.LaneEnds
end

section
/-! PROOF. A trip event lane by lane: O45, O46 and O48. -/

namespace Sys2Proof.TripEvents

open Sys2Proof.Machine Sys2Proof.Safety Sys2Proof.Records Sys2Proof.Chains Sys2Proof.LinkSteps Sys2Proof.LaneRequests Sys2Proof.Updates
open Sys2Proof.Sweeps Sys2Proof.LaneEnds

/-! ## Which lanes trip (R85) -/

section
variable {s : State} {root : LaneId}

theorem trips_root (s : State) (root : LaneId) : s.trips root root = true := by
  unfold State.trips State.tripsUp
  rw [beq_self_eq_true, Bool.true_or]

theorem tripsUp_succ (n : Nat) (j : LaneId) : s.tripsUp root (n + 1) j = (j == root || match s.lane j with
    | none => false
    | some l => l.mode.isMoving && l.cfg.coupled && match l.source.link with
      | none => false
      | some k => s.tripsUp root n k.parent) := rfl

theorem parentOf_link {j : LaneId} {l : Lane} {k : FollowLink} (record : s.lane j = some l) (link : l.source.link = some k) :
    s.parentOf j = some k.parent := by
  unfold State.parentOf
  rw [record]
  change l.source.link.map _ = _
  rw [link]
  rfl

/-- More links than the depth change nothing. -/
theorem tripsUp_eq_of_depth (tree : TreeLaw s) {n : Nat} {j : LaneId} (deep : s.depth j < n) :
    s.tripsUp root (n + 1) j = s.tripsUp root n j := by
  induction n generalizing j with
  | zero => exact absurd deep (Nat.not_lt_zero _)
  | succ n ih =>
    rw [tripsUp_succ, tripsUp_succ]
    cases record : s.lane j with
    | none => rfl
    | some l =>
      cases link : l.source.link with
      | none => simp only [link]
      | some k =>
        have parent := depth_parent tree (parentOf_link record link)
        simp only [link, ih (j := k.parent) (by omega)]

/-- A lane other than the root trips as a coupled, moving follower of a lane that trips (R85). -/
theorem trips_iff (tree : TreeLaw s) {j : LaneId} (ne : j ≠ root) :
    s.trips root j = true ↔ ∃ m k, s.lane j = some m ∧ cascades m k ∧ s.trips root k = true := by
  have unfolded : s.trips root j = s.tripsUp root 25 j :=
    (tripsUp_eq_of_depth tree (Nat.lt_of_le_of_lt (depth_le tree j) (by decide))).symm
  rw [unfolded, tripsUp_succ, beq_eq_false_iff_ne.2 ne, Bool.false_or]
  constructor
  · intro trips
    cases record : s.lane j with
    | none =>
      rw [record] at trips
      cases trips
    | some m =>
      rw [record] at trips
      dsimp only at trips
      cases source : m.source with
      | fixed =>
        rw [source] at trips
        simp [Source.link] at trips
      | follow k =>
        rw [source] at trips
        simp only [Source.link, Bool.and_eq_true] at trips
        obtain ⟨⟨moving, coupled⟩, parent⟩ := trips
        exact ⟨m, k.parent, rfl, ⟨moving, coupled, k, source, rfl⟩, parent⟩
  · rintro ⟨m, k, record, ⟨moving, coupled, link, source, rfl⟩, parent⟩
    have up : s.tripsUp root 24 link.parent = true := parent
    rw [record]
    simp only [moving, coupled, source, Source.link, up, Bool.and_self]

theorem retrips_iff {l : Lane} : s.retrips root l = true ↔
    ∃ n c k, l.mode = .tripped .cascade n true c ∧ l.cfg.coupled = true ∧ l.source = .follow k ∧ s.trips root k.parent = true := by
  unfold State.retrips
  constructor
  · intro again
    cases source : l.source with
    | fixed =>
      rw [source] at again
      simp [Source.link] at again
    | follow k =>
      rw [source] at again
      simp only [Source.link, Bool.and_eq_true] at again
      obtain ⟨⟨resolved, coupled⟩, parent⟩ := again
      obtain ⟨n, c, mode⟩ := cascadeResolved_iff.1 resolved
      exact ⟨n, c, k, mode, coupled, rfl, parent⟩
  · rintro ⟨n, c, k, mode, coupled, source, parent⟩
    simp only [cascadeResolved_iff.2 ⟨n, c, mode⟩, coupled, source, Source.link, parent, Bool.and_self]

end

/-! ## A trip event at one lane (R85, R87, R103) -/

section
variable {s u : State} {i j : LaneId}

theorem laneViewOf_pushRef (s : State) (i j : LaneId) : laneViewOf i (s.pushRef j) = laneViewOf i s := by
  unfold laneViewOf
  simp only [State.lane_pushRef, State.port_pushRef]

theorem laneViewOf_report_of_ne (s : State) (ne : j ≠ i) (r : LaneReport) : laneViewOf i (s.report j r) = laneViewOf i s := by
  unfold laneViewOf
  simp only [State.lane_report, LaneView.mk.injEq, true_and]
  constructor
  all_goals
    funext p
    rw [State.port_report]
    split
  · exact Port.takeLane_mask ..
  · rfl
  · exact entries_takeLane_of_ne _ ne r
  · rfl

/-- A record written with the same claim, and one report of it. -/
theorem laneViewOf_written {l m : Lane} (same : laneViewOf i u = laneViewOf i s) (record : s.lane i = some l) (claim : m.claim = l.claim)
    (r : LaneReport) : laneViewOf i ((u.putLane i (some m)).report i r)
      = { laneViewOf i s with record := some m, entries := fun p => entriesAfter s i [r] p } := by
  have mask : ∀ p, (u.port p).mask = (s.port p).mask := mask_of_laneViewOf same
  have entries : ∀ p, (u.port p).attn.lanes[i] = (s.port p).attn.lanes[i] := entries_of_laneViewOf same
  have routes : ∀ p, routed (u.putLane i (some m)) i p = routed s i p := fun p => by
    refine routed_congr ?_
    rw [State.lane_putLane_self, record]
    exact claim
  unfold laneViewOf
  simp only [State.lane_report, State.lane_putLane_self, LaneView.mk.injEq, true_and]
  constructor
  all_goals
    funext p
    rw [State.port_report, State.port_putLane, routes]
  · split
    · rw [Port.takeLane_mask, mask]
    · exact mask p
  · unfold entriesAfter
    rw [List.foldl_cons, List.foldl_nil]
    cases routed s i p with
    | true =>
      rw [if_pos rfl, entries_takeLane, mask, entries]
      rfl
    | false => exact entries p

variable {root : LaneId} {c : TripCause} {code : Nat}

theorem laneViewOf_tripOne_of_ne (before u : State) (ne : j ≠ i) :
    laneViewOf i (before.tripOne root c code u j) = laneViewOf i u := by
  unfold State.tripOne
  split
  · rfl
  · split
    · rw [laneViewOf_pushRef, laneViewOf_report_of_ne _ ne, laneViewOf_putLane_of_ne _ ne]
    · split
      · rw [laneViewOf_report_of_ne _ ne, laneViewOf_putLane_of_ne _ ne]
      · rfl

/-- A lane of a trip event is as its own part makes it. -/
theorem laneViewOf_enterTripped {v : LaneView}
    (own : ∀ u, laneViewOf i u = laneViewOf i s → laneViewOf i (s.tripOne root c code u i) = v) :
    laneViewOf i (s.enterTripped root c code) = v :=
  laneViewOf_sweep (fun u _ ne => laneViewOf_tripOne_of_ne s u ne) own

/-- A lane that trips enters TRIPPED and reports it. -/
theorem laneViewOf_of_trips {l : Lane} (record : s.lane i = some l) (trips : s.trips root i = true) :
    laneViewOf i (s.enterTripped root c code) = { laneViewOf i s with
      record := some (trippedRecord (if i = root then c else .cascade) (if i = root then code else 0) l)
      entries := fun p => entriesAfter s i [.tripped (if i = root then c else .cascade) (if i = root then code else 0)] p } := by
  refine laneViewOf_enterTripped fun u same => ?_
  unfold State.tripOne
  simp only [record, trips, if_true]
  rw [laneViewOf_pushRef]
  exact laneViewOf_written (m := l.enterTripped _ _) same record rfl _

/-- A resolved CASCADE lane whose parent trips is unresolved again and reports it. -/
theorem laneViewOf_of_retrips {l : Lane} {n : Nat} {m : Option Marker} (record : s.lane i = some l) (stays : s.trips root i = false)
    (again : s.retrips root l = true) (mode : l.mode = .tripped .cascade n true m) :
    laneViewOf i (s.enterTripped root c code) = { laneViewOf i s with
      record := some { l with mode := .tripped .cascade 0 false m }, entries := fun p => entriesAfter s i [.tripped .cascade 0] p } := by
  refine laneViewOf_enterTripped fun u same => ?_
  unfold State.tripOne
  simp only [record, stays, again, Bool.false_eq_true, if_false, if_true, mode, Mode.retrip]
  exact laneViewOf_written (m := { l with mode := .tripped .cascade 0 false m }) same record rfl _

theorem laneViewOf_of_vacant (vacant : s.lane i = none) : laneViewOf i (s.enterTripped root c code) = laneViewOf i s := by
  refine laneViewOf_enterTripped fun u same => ?_
  unfold State.tripOne
  rw [vacant]
  exact same

theorem laneViewOf_of_stays {l : Lane} (record : s.lane i = some l) (stays : s.trips root i = false) (once : s.retrips root l = false) :
    laneViewOf i (s.enterTripped root c code) = laneViewOf i s := by
  refine laneViewOf_enterTripped fun u same => ?_
  unfold State.tripOne
  simp only [record, stays, once, Bool.false_eq_true, if_false]
  exact same

/-! ## The rest of a trip event -/

theorem frames_tripOne {l : Lane} (record : s.lane j = some l) (trips : s.trips root j = true) (u : State) :
    (s.tripOne root c code u j).frames = afterRef j u.frames := by
  unfold State.tripOne
  simp only [record, trips, if_true]
  rw [frames_pushRef, State.report_frames, State.putLane_frames]

theorem frames_tripOne_of_stays (stays : s.trips root j = false) (u : State) : (s.tripOne root c code u j).frames = u.frames := by
  unfold State.tripOne
  split
  · rfl
  · simp only [stays, Bool.false_eq_true, if_false]
    split
    · rw [State.report_frames, State.putLane_frames]
    · rfl

/-- A lane that trips is not VACANT, if the root is not. -/
theorem lane_of_trips {l : Lane} (record : s.lane root = some l) {j : LaneId} (trips : s.trips root j = true) : ∃ m, s.lane j = some m := by
  by_cases is : j = root
  · exact ⟨l, is ▸ record⟩
  · unfold State.trips State.tripsUp at trips
    rw [beq_eq_false_iff_ne.2 is, Bool.false_or] at trips
    split at trips
    · cases trips
    · next m lane => exact ⟨m, lane⟩

/-- The REF entries join in the order of the sweep (R164, R165). -/
theorem frames_sweep_trips (recorded : ∀ j, s.trips root j = true → ∃ l, s.lane j = some l) (js : List LaneId) (nodup : js.Nodup)
    (u : State) : (js.foldl (s.tripOne root c code) u).frames = u.frames
      ++ (js.filter fun j => s.trips root j && !u.frames.contains (Entry.mk j .ref)).map fun j => Entry.mk j .ref := by
  induction js generalizing u with
  | nil => simp
  | cons j js ih =>
    obtain ⟨new, nodup⟩ := List.nodup_cons.1 nodup
    rw [List.foldl_cons, ih nodup]
    cases trips : s.trips root j with
    | false =>
      rw [frames_tripOne_of_stays trips, List.filter_cons, trips]
      rfl
    | true =>
      obtain ⟨l, record⟩ := recorded j trips
      rw [frames_tripOne record trips, List.filter_cons, trips]
      unfold afterRef
      by_cases queued : Entry.mk j .ref ∈ u.frames
      · rw [if_pos queued, List.contains_iff_mem.2 queued]
        rfl
      · have absent : u.frames.contains (Entry.mk j .ref) = false := by simpa using queued
        have later : (js.filter fun k => s.trips root k && !(u.frames ++ [Entry.mk j .ref]).contains (Entry.mk k .ref))
            = js.filter fun k => s.trips root k && !u.frames.contains (Entry.mk k .ref) := by
          refine List.filter_congr fun k mem => ?_
          have other : k ≠ j := fun is => new (is ▸ mem)
          simp [other]
        rw [if_neg queued, absent, later]
        simp

theorem frames_enterTripped {l : Lane} (record : s.lane root = some l) : (s.enterTripped root c code).frames = s.frames
    ++ (allLanes.filter fun j => s.trips root j && !s.frames.contains (Entry.mk j .ref)).map fun j => Entry.mk j .ref :=
  frames_sweep_trips (fun _ => lane_of_trips record) allLanes allLanes_nodup s

theorem mem_frames_enterTripped {l : Lane} (record : s.lane root = some l) : Entry.mk root .ref ∈ (s.enterTripped root c code).frames := by
  rw [frames_enterTripped record, List.mem_append]
  by_cases queued : Entry.mk root .ref ∈ s.frames
  · exact .inl queued
  · refine .inr (List.mem_map.2 ⟨root, List.mem_filter.2 ⟨mem_allLanes root, ?_⟩, rfl⟩)
    simp [trips_root, queued]

/-- A trip event keeps the ports but for their sets. -/
theorem portButSet_enterTripped (s : State) (root : LaneId) (c : TripCause) (code : Nat) (p : PortId) :
    PortButSet (s.port p) ((s.enterTripped root c code).port p) ((s.enterTripped root c code).port p).attn := by
  refine foldl_keeps (fun u => PortButSet (s.port p) (u.port p) (u.port p).attn) (fun u j h => ?_) allLanes s (portButSet_refl _)
  have reported : ∀ (o : Option Lane) (r : LaneReport),
      PortButSet (s.port p) (((u.putLane j o).report j r).port p) (((u.putLane j o).report j r).port p).attn := fun o r =>
    portButSet_trans (by rw [State.port_putLane]; exact h) (portButSet_report (u.putLane j o) j r p)
  unfold State.tripOne
  split
  · exact h
  · split
    · simp only [State.port_pushRef]
      exact reported _ _
    · split
      · exact reported _ _
      · exact h

end

/-! ## The cascade as the statements say it -/

/-- A state with the lane table of another but for one lane, which keeps its claim and its link, and in the other lanes' entries. -/
structure ButLane (s before : State) (root : LaneId) : Prop where
  views : ∀ j, j ≠ root → laneViewOf j before = laneViewOf j s
  claims : ∀ j, (before.lane j).bind Lane.claim = (s.lane j).bind Lane.claim
  parents : ∀ j, before.parentOf j = s.parentOf j
  inService : ∀ j, InService s j → InService before j
  recorded : ∃ l m, s.lane root = some l ∧ before.lane root = some m
  frames : before.frames = s.frames
  halt : before.haltLevel = s.haltLevel

section
variable {s before : State} {root : LaneId}

theorem depth_congr (parents : ∀ j, before.parentOf j = s.parentOf j) (j : LaneId) : before.depth j = s.depth j := by
  have up : ∀ (n : Nat) (j : LaneId), before.depthUp n j = s.depthUp n j := by
    intro n
    induction n with
    | zero => exact fun _ => rfl
    | succ n ih =>
      intro j
      rw [depthUp_succ, depthUp_succ, parents]
      cases s.parentOf j with
      | none => rfl
      | some p => exact congrArg (· + 1) (ih p)
  exact up 24 j

theorem ButLane.tree (h : ButLane s before root) (tree : TreeLaw s) : TreeLaw before := by
  obtain ⟨depth, parent⟩ := treeLaw_iff.1 tree
  exact treeLaw_iff.2 ⟨fun j => depth_congr h.parents j ▸ depth j,
    fun j p link => h.inService p (parent j p ((h.parents j).symm.trans link))⟩

theorem ButLane.lane (h : ButLane s before root) {j : LaneId} (ne : j ≠ root) : before.lane j = s.lane j :=
  record_of_laneViewOf (h.views j ne)

theorem ButLane.entriesAfter (h : ButLane s before root) {j : LaneId} (ne : j ≠ root) (rs : List LaneReport) (p : PortId) :
    entriesAfter before j rs p = entriesAfter s j rs p := by
  unfold Safety.entriesAfter
  have mask : (before.port p).mask = (s.port p).mask := mask_of_laneViewOf (h.views j ne) p
  have entries : (before.port p).attn.lanes[j] = (s.port p).attn.lanes[j] := entries_of_laneViewOf (h.views j ne) p
  rw [routed_congr (h.claims j), mask, entries]

/-- The cascade of a trip event, over the follow tree as it stood. -/
theorem tripCascades_enterTripped (h : ButLane s before root) (tree : TreeLaw s) (c : TripCause) (code : Nat) :
    TripCascades s (before.enterTripped root c code) root := by
  obtain ⟨l₀, l, root₀, record⟩ := h.recorded
  have iff : ∀ {j}, j ≠ root → (before.trips root j = true ↔ ∃ m k, s.lane j = some m ∧ cascades m k ∧ before.trips root k = true) := by
    intro j ne
    rw [trips_iff (h.tree tree) ne, h.lane ne]
  refine ⟨before.trips root, trips_root before root, fun j ne => iff ne, fun j m ne lane trips => ?_,
    fun j m k n marker ne lane mode coupled source parent => ?_, fun j m ne lane stays calm => ?_, fun j vacant => ?_, ?_⟩
  · have view := laneViewOf_of_trips (c := c) (code := code) ((h.lane ne).trans lane) trips
    rw [if_neg ne, if_neg ne] at view
    exact ⟨record_of_laneViewOf view, fun p => (entries_of_laneViewOf view p).trans (h.entriesAfter ne _ p)⟩
  · have stays : before.trips root j = false := by
      refine Bool.eq_false_iff.2 fun trips => ?_
      obtain ⟨m', k', lane', ⟨moving, -⟩, -⟩ := (iff ne).1 trips
      rw [lane] at lane'
      cases lane'
      rw [mode] at moving
      cases moving
    have view := laneViewOf_of_retrips (c := c) (code := code) ((h.lane ne).trans lane) stays
      (retrips_iff.2 ⟨n, marker, k, mode, coupled, source, parent⟩) mode
    exact ⟨record_of_laneViewOf view, fun p => (entries_of_laneViewOf view p).trans (h.entriesAfter ne _ p)⟩
  · have once : before.retrips root m = false := by
      refine Bool.eq_false_iff.2 fun again => ?_
      obtain ⟨n, marker, k, mode, coupled, source, parent⟩ := retrips_iff.1 again
      exact calm k n marker source mode ⟨coupled, parent⟩
    have view := (laneViewOf_of_stays (c := c) (code := code) ((h.lane ne).trans lane) stays once).trans (h.views j ne)
    exact ⟨record_of_laneViewOf view, fun p => entries_of_laneViewOf view p⟩
  · have ne : j ≠ root := by
      rintro rfl
      cases root₀.symm.trans vacant
    have view := (laneViewOf_of_vacant (c := c) (code := code) (root := root) ((h.lane ne).trans vacant)).trans (h.views j ne)
    exact (record_of_laneViewOf view).trans vacant
  · rw [← h.frames]
    exact frames_enterTripped record

end

/-- A lane's record written at the end of a transaction, its claim and source kept. -/
theorem butLane_of_laneEnd {s t : State} {i : LaneId} {l m : Lane} {rs : List LaneReport} (h : LaneEnd s t i m rs)
    (record : s.lane i = some l) (claim : m.claim = l.claim) (source : m.source = l.source) (service : ∀ k, m.mode ≠ .defining k) :
    ButLane s t i where
  views j ne := by
    unfold laneViewOf
    simp only [h.others j ne, LaneView.mk.injEq, true_and]
    constructor
    all_goals funext p
    · exact (h.ports p).mask
    · rw [h.attn p]
      exact (AttnSet.lanes_onLane ..).trans (if_neg ne)
  claims j := by
    by_cases is : j = i
    · rw [is, h.record, record]
      exact claim
    · rw [h.others j is]
  parents j := by
    unfold State.parentOf
    by_cases is : j = i
    · rw [is, h.record, record]
      change (m.source.link).map _ = (l.source.link).map _
      rw [source]
    · rw [h.others j is]
  inService j := by
    rintro ⟨n, lane, modes⟩
    by_cases is : j = i
    · exact ⟨m, is ▸ h.record, service⟩
    · exact ⟨n, (h.others j is).trans lane, modes⟩
  recorded := ⟨l, m, record, h.record⟩
  frames := h.frames
  halt := h.guards.lines.haltLevel

/-- The entries of the lane itself after further reports. -/
theorem entriesAfter_of_laneEnd {s t : State} {i : LaneId} {l m : Lane} {rs : List LaneReport} (h : LaneEnd s t i m rs)
    (record : s.lane i = some l) (claim : m.claim = l.claim) (more : List LaneReport) (p : PortId) :
    entriesAfter t i more p = entriesAfter s i (rs ++ more) p := by
  have routes : routed t i p = routed s i p := by
    refine routed_congr ?_
    rw [h.record, record]
    exact claim
  have entries : (t.port p).attn.lanes[i] = entriesAfter s i rs p := by rw [h.attn p, entries_setAfter]
  unfold entriesAfter at entries ⊢
  rw [routes, (h.ports p).mask, entries, List.foldl_append]

/-! ## The root of a trip event -/

theorem linkGuards_enterTripped {s t : State} (guards : LinkGuards s t) (root : LaneId) (c : TripCause) (code : Nat) :
    LinkGuards s (t.enterTripped root c code) := by
  obtain ⟨lines, link, served⟩ := enterTripped_rest t root c code
  exact ⟨link.trans guards.link, sameLines_trans guards.lines lines, served.trans guards.served⟩

/-- A moving lane trips at the end of its transaction (R103). -/
structure RootTripped (s t : State) (i : LaneId) (l : Lane) (rs : List LaneReport) : Prop where
  guards : LinkGuards s t
  record : t.lane i = some l
  entry : Entry.mk i .ref ∈ t.frames
  entries : ∀ p, (t.port p).attn.lanes[i] = entriesAfter s i rs p
  slots : ∀ p, (t.port p).slots = (s.port p).slots
  lease : ∀ p, (t.port p).lease = (s.port p).lease

theorem rootTripped_enterTripped {s u : State} {i : LaneId} {l m : Lane} {rs : List LaneReport} (h : LaneEnd s u i m rs)
    (record : s.lane i = some l) (claim : m.claim = l.claim) (c : TripCause) (code : Nat) :
    RootTripped s (u.enterTripped i c code) i (trippedRecord c code m) (rs ++ [.tripped c code]) := by
  have view := laneViewOf_of_trips (c := c) (code := code) h.record (trips_root u i)
  rw [if_pos rfl, if_pos rfl] at view
  have ports := portButSet_enterTripped u i c code
  exact ⟨linkGuards_enterTripped h.guards i c code, record_of_laneViewOf view, mem_frames_enterTripped h.record,
    fun p => (entries_of_laneViewOf view p).trans (entriesAfter_of_laneEnd h record claim _ p),
    fun p => (ports p).slots.trans (h.ports p).slots, fun p => (ports p).lease.trans (h.ports p).lease⟩

theorem isMoving_iff {m : Mode} : m.isMoving = true ↔ (∃ h r, m = .active h r) ∨ ∃ k, m = .stopping k := by
  cases m <;> simp [Mode.isMoving]

/-! ## The statements -/

section
variable {s : State} {x : Txn} {b : Bool} {chars : List Byte} {r : Reply} {l : Lane}

/-- A valid reply to a REF frame with drive state TRIP. -/
theorem exec_tripReply (running : s.held = false) (awaiting : s.link = .awaiting x b) (fresh : x.stale = false) (kind : x.kind = .ref)
    (valid : validReply x chars = some r) (trip : r.view.state = .trip) (record : s.lane x.lane = some l)
    (service : ∀ m, l.mode ≠ .defining m) :
    exec (.driveReply chars) s = .next ((heardState s x.lane l r.view).tripReply x.lane r.view.tripCode) := by
  rw [exec_driveReply running awaiting, valid, endTransaction_of_ref fresh record kind service]
  unfold State.refEnd
  dsimp only
  rw [if_pos trip]
  rfl

theorem moving_service (moving : l.mode.isMoving = true) : ∀ m, l.mode ≠ .defining m := by
  intro m mode
  rw [mode] at moving
  cases moving

/-- A REF transaction with no valid reply is a miss. -/
theorem exec_miss {e : Instr} (running : s.held = false) (awaiting : s.link = .awaiting x b) (fresh : x.stale = false) (kind : x.kind = .ref)
    (ends : EndsWithout e x b) (record : s.lane x.lane = some l) (service : ∀ m, l.mode ≠ .defining m) :
    exec e s = .next ((guardState s).miss x.lane l) := by
  rw [exec_endsWithout running awaiting ends, endTransaction_of_ref fresh record kind service]
  rfl

end

/-- Settles O45: the trip event's root, and the change of cause within TRIPPED. -/
theorem tripReplyActsByLaneState : Obligations.TripReplyActsByLaneState := by
  refine ⟨fun s x b chars r l running awaiting fresh kind valid trip record moving => ?_,
    fun s x b chars r l k n res m running awaiting fresh kind valid trip record mode other => ?_, fun m => isMoving_iff⟩
  · have event := exec_tripReply running awaiting fresh kind valid trip record (moving_service moving)
    rw [tripReply_moving moving] at event
    obtain ⟨guards, tripped, entry, entries, slots, lease⟩ :=
      rootTripped_enterTripped (laneEnd_heard record r.view) record rfl .drive r.view.tripCode
    exact ⟨_, event, guards, tripped, entry, fun p => ⟨entries p, slots p, lease p⟩⟩
  · have event := exec_tripReply running awaiting fresh kind valid trip record (by rw [mode]; exact fun _ h => by cases h)
    have done := laneEnd_tripReply record mode other r.view r.view.tripCode
    exact ⟨_, event, done.guards, done.writes record rfl, done.frames, done.ports⟩

/-- Settles O46: the cascade of either event, from the lane as the end of the transaction has left it. -/
theorem tripCascadesDownCoupledLinks : Obligations.TripCascadesDownCoupledLinks := by
  refine ⟨fun s x b chars r l tree running awaiting fresh kind valid trip record moving => ?_,
    fun s x b e l tree running awaiting fresh kind ends record third moving => ?_⟩
  · have event := exec_tripReply running awaiting fresh kind valid trip record (moving_service moving)
    rw [tripReply_moving moving] at event
    have before := butLane_of_laneEnd (laneEnd_heard record r.view) record rfl rfl (moving_service moving)
    exact ⟨_, event, tripCascades_enterTripped before tree .drive r.view.tripCode⟩
  · have event := exec_miss running awaiting fresh kind ends record (moving_service moving)
    rw [miss_third third, linkLoss_moving record moving] at event
    have before := butLane_of_laneEnd (laneEnd_linkLost record) record rfl rfl (moving_service moving)
    exact ⟨_, event, tripCascades_enterTripped before tree .link 0⟩

/-- Settles O48: the miss by its count, and the third by the lane state. -/
theorem missesLeadToLinkLoss : Obligations.MissesLeadToLinkLoss := by
  intro s x b e l running awaiting fresh kind record service ends
  have event := exec_miss running awaiting fresh kind ends record service
  obtain low | third | high : l.misses < 2 ∨ l.misses = 2 ∨ 3 ≤ l.misses := by omega
  · have done := laneEnd_miss_low record low
    exact ⟨_, event, done.guards, fun _ => ⟨done.writes record rfl, done.samePorts, done.frames⟩, fun h => absurd low (by omega),
      fun h => absurd low (by omega), fun h => absurd low (by omega), fun _ _ _ _ h => absurd low (by omega)⟩
  · rw [miss_third third] at event
    have cases : l.mode = .standby ∨ l.mode.isMoving = true ∨ ∃ k n r m, l.mode = .tripped k n r m := by
      cases mode : l.mode with
      | defining m => exact absurd mode (service m)
      | standby => exact .inl rfl
      | active h r => exact .inr (.inl rfl)
      | stopping k => exact .inr (.inl rfl)
      | tripped k n r m => exact .inr (.inr ⟨k, n, r, m, rfl⟩)
    obtain standby | moving | ⟨k, n, r, m, mode⟩ := cases
    · have done := laneEnd_linkLost record
      rw [linkLoss_standby record standby] at event
      refine ⟨_, event, done.guards, fun h => absurd third (by omega), fun h => absurd third (by omega),
        fun _ _ => ⟨done.writes record rfl, done.frames, done.ports⟩, fun _ moving => ?_, fun _ _ _ _ _ mode => ?_⟩
      · rw [standby] at moving
        cases moving
      · rw [standby] at mode
        cases mode
    · obtain ⟨guards, tripped, entry, entries, -⟩ := rootTripped_enterTripped (laneEnd_linkLost record) record rfl .link 0
      rw [linkLoss_moving record moving] at event
      refine ⟨_, event, guards, fun h => absurd third (by omega), fun h => absurd third (by omega), fun _ standby => ?_,
        fun _ _ => ⟨tripped, entry, entries⟩, fun _ _ _ _ _ mode => ?_⟩
      · rw [standby] at moving
        cases moving
      · rw [mode] at moving
        cases moving
    · have done := laneEnd_linkLoss_tripped record mode
      refine ⟨_, event, done.guards, fun h => absurd third (by omega), fun h => absurd third (by omega), fun _ standby => ?_,
        fun _ moving => ?_, fun k' n' r' m' _ mode' => ?_⟩
      · rw [mode] at standby
        cases standby
      · rw [mode] at moving
        cases moving
      · rw [mode] at mode'
        cases mode'
        exact ⟨done.writes record rfl, done.frames, done.ports⟩
  · have done := laneEnd_miss_high record high
    refine ⟨_, event, done.guards, fun h => absurd high (by omega), fun _ => ⟨⟨fun j => ?_, done.pool⟩, done.samePorts, done.frames⟩,
      fun h => absurd high (by omega), fun h => absurd high (by omega), fun _ _ _ _ h => absurd high (by omega)⟩
    by_cases is : j = x.lane
    · rw [is, done.record, record]
    · exact done.others j is

end Sys2Proof.TripEvents
end

section
/-! PROOF. A resolution event lane by lane (R88, R105 to R107, R110 to R112): O44, O49 and O60. -/

namespace Sys2Proof.LeaveEvents

open Sys2Proof.Machine Sys2Proof.Safety Sys2Proof.Records Sys2Proof.Chains Sys2Proof.Pending Sys2Proof.LinkSteps Sys2Proof.LaneRequests
open Sys2Proof.Updates Sys2Proof.AttentionSets Sys2Proof.Sweeps Sys2Proof.LaneEnds Sys2Proof.TripEvents Sys2Proof.DeviceRequests

/-! ## Which lanes leave (R88) -/

section
variable {s : State} {root : LaneId} {a : Bool}

theorem leavesUp_succ (n : Nat) (j : LaneId) : s.leavesUp root a (n + 1) j = if j = root then some a
    else match s.lane j with
      | none => none
      | some l =>
        if l.mode.cascadeUnresolved && l.cfg.autoResume then
          match l.source.link with
          | none => none
          | some k => (s.leavesUp root a n k.parent).map (· && !s.haltLevel)
        else none := rfl

/-- More links than the depth change nothing. -/
theorem leavesUp_eq_of_depth (tree : TreeLaw s) {n : Nat} {j : LaneId} (deep : s.depth j < n) :
    s.leavesUp root a (n + 1) j = s.leavesUp root a n j := by
  induction n generalizing j with
  | zero => exact absurd deep (Nat.not_lt_zero _)
  | succ n ih =>
    rw [leavesUp_succ, leavesUp_succ]
    cases record : s.lane j with
    | none => rfl
    | some l =>
      cases link : l.source.link with
      | none => simp only [link]
      | some k =>
        have parent := depth_parent tree (parentOf_link record link)
        simp only [link, ih (j := k.parent) (by omega)]

/-- Where a lane other than the root goes, by where its parent goes. -/
theorem leaves_iff (tree : TreeLaw s) {j : LaneId} (ne : j ≠ root) (b : Bool) :
    s.leaves root a j = some b ↔ ∃ m k n c a', s.lane j = some m ∧ m.source = .follow k ∧ m.mode = .tripped .cascade n false c
      ∧ m.cfg.autoResume = true ∧ s.leaves root a k.parent = some a' ∧ b = (a' && !s.haltLevel) := by
  have unfolded : s.leaves root a j = s.leavesUp root a 25 j :=
    (leavesUp_eq_of_depth tree (Nat.lt_of_le_of_lt (depth_le tree j) (by decide))).symm
  rw [unfolded, leavesUp_succ, if_neg ne]
  constructor
  · intro leaves
    cases record : s.lane j with
    | none =>
      rw [record] at leaves
      cases leaves
    | some m =>
      rw [record] at leaves
      dsimp only at leaves
      split at leaves
      · next unresolved =>
        simp only [Bool.and_eq_true] at unresolved
        obtain ⟨cascade, resumes⟩ := unresolved
        obtain ⟨n, c, mode⟩ := cascadeUnresolved_iff.1 cascade
        cases source : m.source with
        | fixed =>
          rw [source] at leaves
          cases leaves
        | follow k =>
          rw [source] at leaves
          obtain ⟨a', up, rfl⟩ := Option.map_eq_some_iff.1 leaves
          exact ⟨m, k, n, c, a', rfl, source, mode, resumes, up, rfl⟩
      · cases leaves
  · rintro ⟨m, k, n, c, a', record, source, mode, resumes, parent, rfl⟩
    have up : s.leavesUp root a 24 k.parent = some a' := parent
    rw [record]
    simp only [cascadeUnresolved_iff.2 ⟨n, c, mode⟩, resumes, source, Source.link, up, Bool.and_self, if_true, Option.map_some]

end

/-! ## A resolution event at one lane -/

section
variable {s u : State} {i j root : LaneId} {a : Bool}

theorem laneViewOf_preemptClear (s : State) (i j : LaneId) (m : Option Marker) : laneViewOf i (s.preemptClear j m) = laneViewOf i s := by
  cases m with
  | none => rfl
  | some m =>
    have mask : (Port.answerLong (s.port m.port) j m.slot .ok []).mask = (s.port m.port).mask := by
      unfold Port.answerLong
      split
      · rfl
      · exact Port.answer_mask ..
    have answered := laneViewOf_modPort (i := i) (s := s) (p := m.port) (f := (·.answerLong j m.slot .ok [])) mask
      (by rw [answerLong_attn])
    refine Eq.trans ?_ answered
    unfold laneViewOf
    congr 1

theorem laneViewOf_leaveOne_of_ne (u : State) (ne : j ≠ i) (l : Lane) (b : Bool) : laneViewOf i (u.leaveOne j l b) = laneViewOf i u := by
  unfold State.leaveOne
  cases b with
  | true => exact (laneViewOf_preemptClear ..).trans ((laneViewOf_report_of_ne _ ne _).trans (laneViewOf_putLane_of_ne _ ne _))
  | false => exact (laneViewOf_preemptClear ..).trans (laneViewOf_putLane_of_ne _ ne _)

theorem laneViewOf_resolveOne_of_ne (before u : State) (ne : j ≠ i) :
    laneViewOf i (before.resolveOne root a u j) = laneViewOf i u := by
  unfold State.resolveOne
  split
  · rfl
  · split
    · exact laneViewOf_leaveOne_of_ne u ne _ _
    · split
      · rfl
      · split
        · exact laneViewOf_putLane_of_ne u ne _
        · rfl

theorem laneViewOf_leaveTripped {v : LaneView}
    (own : ∀ u, laneViewOf i u = laneViewOf i s → laneViewOf i (s.resolveOne root a u i) = v) :
    laneViewOf i (s.leaveTripped root a) = v :=
  laneViewOf_sweep (fun u _ ne => laneViewOf_resolveOne_of_ne s u ne) own

theorem resolveOne_of_leaves {l : Lane} {b : Bool} (record : s.lane i = some l) (leaves : s.leaves root a i = some b) (u : State) :
    s.resolveOne root a u i = u.leaveOne i l b := by
  unfold State.resolveOne
  simp only [record, leaves]

/-- A lane that leaves for ACTIVE reports RESUMED (R107). -/
theorem laneViewOf_of_resumes {l : Lane} (record : s.lane i = some l) (leaves : s.leaves root a i = some true) :
    laneViewOf i (s.leaveTripped root a) = { laneViewOf i s with
      record := some { l with mode := .active none .idle, output := 0, track := .blending }
      entries := fun p => entriesAfter s i [.resumed] p } := by
  refine laneViewOf_leaveTripped fun u same => ?_
  rw [resolveOne_of_leaves record leaves]
  exact (laneViewOf_preemptClear ..).trans (laneViewOf_written (m := l.leaveTripped true) same record rfl .resumed)

theorem laneViewOf_of_rests {l : Lane} (record : s.lane i = some l) (leaves : s.leaves root a i = some false) :
    laneViewOf i (s.leaveTripped root a) = { laneViewOf i s with
      record := some { l with mode := .standby, output := 0, track := .blending } } := by
  refine laneViewOf_leaveTripped fun u same => ?_
  rw [resolveOne_of_leaves record leaves]
  refine (laneViewOf_preemptClear ..).trans ((laneViewOf_putLane u i (some (l.leaveTripped false))).trans ?_)
  rw [same]
  rfl

/-- A CASCADE lane that does not leave with its parent is resolved. -/
theorem laneViewOf_of_resolved {l : Lane} {k : FollowLink} {n : Nat} {c : Option Marker} (record : s.lane i = some l)
    (stays : s.leaves root a i = none) (source : l.source = .follow k) (mode : l.mode = .tripped .cascade n false c)
    (parent : s.leaves root a k.parent ≠ none) :
    laneViewOf i (s.leaveTripped root a) = { laneViewOf i s with record := some { l with mode := .tripped .cascade n true c } } := by
  refine laneViewOf_leaveTripped fun u same => ?_
  have own : s.resolveOne root a u i = u.putLane i (some { l with mode := .tripped .cascade n true c }) := by
    unfold State.resolveOne
    simp only [record, stays, source, Source.link, mode, Mode.resolve, cascadeUnresolved_iff.2 ⟨n, c, rfl⟩,
      Option.isSome_iff_ne_none.2 parent, Bool.and_self, if_true]
  rw [own, laneViewOf_putLane, same]

theorem laneViewOf_of_unresolved {l : Lane} (record : s.lane i = some l) (stays : s.leaves root a i = none)
    (apart : ∀ k n c, l.source = .follow k → l.mode = .tripped .cascade n false c → s.leaves root a k.parent = none) :
    laneViewOf i (s.leaveTripped root a) = laneViewOf i s := by
  refine laneViewOf_leaveTripped fun u same => ?_
  have own : s.resolveOne root a u i = u := by
    unfold State.resolveOne
    simp only [record, stays]
    split
    · rfl
    · next k link =>
      refine if_neg fun both => ?_
      simp only [Bool.and_eq_true] at both
      obtain ⟨unresolved, leaves⟩ := both
      obtain ⟨n, c, mode⟩ := cascadeUnresolved_iff.1 unresolved
      have source : l.source = .follow k := by
        cases source : l.source with
        | fixed =>
          rw [source] at link
          cases link
        | follow k' =>
          rw [source] at link
          exact congrArg Source.follow (Option.some.inj link)
      rw [apart k n c source mode] at leaves
      cases leaves
  rw [own, same]

theorem laneViewOf_leaveTripped_of_vacant (vacant : s.lane i = none) : laneViewOf i (s.leaveTripped root a) = laneViewOf i s := by
  refine laneViewOf_leaveTripped fun u same => ?_
  unfold State.resolveOne
  rw [vacant]
  exact same

end

/-! ## The cascade as the statements say it -/

/-- The resolution cascade, over the follow tree as it stood (R88). -/
theorem resolutionCascades_leaveTripped {s before t : State} {root : LaneId} (h : ButLane s before root) (tree : TreeLaw s) (a : Bool)
    (after : ∀ j, laneViewOf j t = laneViewOf j (before.leaveTripped root a)) : ResolutionCascades s t root a := by
  obtain ⟨l₀, l, root₀, record⟩ := h.recorded
  have iff : ∀ {j}, j ≠ root → ∀ b, before.leaves root a j = some b ↔ ∃ m k n c a', s.lane j = some m ∧ m.source = .follow k
      ∧ m.mode = .tripped .cascade n false c ∧ m.cfg.autoResume = true ∧ before.leaves root a k.parent = some a'
      ∧ b = (a' && !s.haltLevel) := by
    intro j ne b
    rw [leaves_iff (h.tree tree) ne, h.lane ne, h.halt]
  have stood : ∀ {j}, j ≠ root → ∀ {v : LaneView}, laneViewOf j (before.leaveTripped root a) = v → v.entries = (laneViewOf j before).entries →
      ∀ p, (t.port p).attn.lanes[j] = (s.port p).attn.lanes[j] := by
    intro j ne v view same p
    exact (entries_of_laneViewOf ((after j).trans view) p).trans ((congrFun same p).trans (entries_of_laneViewOf (h.views j ne) p))
  refine ⟨before.leaves root a, leaves_root before root a, fun j b ne => iff ne b, fun j m ne lane leaves => ?_, fun j m ne lane leaves => ?_,
    fun j m k n c ne lane source mode manual parent => ?_, fun j m ne lane apart => ?_, fun j vacant => ?_⟩
  · have view := laneViewOf_of_resumes ((h.lane ne).trans lane) leaves
    exact ⟨record_of_laneViewOf ((after j).trans view),
      fun p => (entries_of_laneViewOf ((after j).trans view) p).trans (h.entriesAfter ne _ p)⟩
  · have view := laneViewOf_of_rests ((h.lane ne).trans lane) leaves
    exact ⟨record_of_laneViewOf ((after j).trans view), stood ne view rfl⟩
  · have stays : before.leaves root a j = none := by
      refine Option.eq_none_iff_forall_ne_some.2 fun b leaves => ?_
      obtain ⟨m', -, -, -, -, lane', -, -, resumes, -⟩ := (iff ne b).1 leaves
      rw [lane] at lane'
      cases lane'
      rw [manual] at resumes
      cases resumes
    have view := laneViewOf_of_resolved ((h.lane ne).trans lane) stays source mode parent
    exact ⟨record_of_laneViewOf ((after j).trans view), stood ne view rfl⟩
  · have stays : before.leaves root a j = none := by
      refine Option.eq_none_iff_forall_ne_some.2 fun b leaves => ?_
      obtain ⟨m', k, n, c, a', lane', source, mode, -, parent, -⟩ := (iff ne b).1 leaves
      rw [lane] at lane'
      cases lane'
      rw [apart k n c source mode] at parent
      cases parent
    have view := laneViewOf_of_unresolved ((h.lane ne).trans lane) stays apart
    exact ⟨(record_of_laneViewOf ((after j).trans view)).trans (h.lane ne), stood ne view rfl⟩
  · have ne : j ≠ root := by
      rintro rfl
      cases root₀.symm.trans vacant
    have view := laneViewOf_leaveTripped_of_vacant (root := root) (a := a) ((h.lane ne).trans vacant)
    exact (record_of_laneViewOf ((after j).trans view)).trans ((h.lane ne).trans vacant)

/-! ## The rest of a resolution event -/

/-- A state is another but for lane records, the pool, and the ports' sets; those stand unless lanes leave for ACTIVE. -/
structure OnlyResumed (s t : State) (toActive : Bool) : Prop where
  link : SameLink s t
  served : t.lastServed = s.lastServed
  lines : SameLines s t
  ports : ∀ p, PortButSet (s.port p) (t.port p) (t.port p).attn
  quiet : toActive = false → ∀ p, (t.port p).attn = (s.port p).attn

section
variable {s u : State} {a : Bool}

theorem onlyResumed_refl (s : State) (a : Bool) : OnlyResumed s s a :=
  ⟨⟨rfl, rfl⟩, rfl, by constructor <;> rfl, fun _ => portButSet_refl _, fun _ _ => rfl⟩

theorem OnlyResumed.put (h : OnlyResumed s u a) (i : LaneId) (o : Option Lane) : OnlyResumed s (u.putLane i o) a where
  link := ⟨h.link.link, h.link.frames⟩
  served := h.served
  lines := sameLines_trans h.lines (by constructor <;> rfl)
  ports p := by
    rw [State.port_putLane]
    exact h.ports p
  quiet stays p := by
    rw [State.port_putLane]
    exact h.quiet stays p

theorem OnlyResumed.report (h : OnlyResumed s u true) (i : LaneId) (r : LaneReport) : OnlyResumed s (u.report i r) true where
  link := ⟨(u.report_link i r).trans h.link.link, (u.report_frames i r).trans h.link.frames⟩
  served := (u.report_lastServed i r).trans h.served
  lines := sameLines_trans h.lines (sameLines_report u i r)
  ports p := portButSet_trans (h.ports p) (portButSet_report u i r p)
  quiet := nofun

theorem answerLong_butSet {p q : Port} (h : PortButSet p q q.attn) (i : LaneId) (k : SlotId) (r : Result) (payload : List Byte) :
    PortButSet (p.answerLong i k r payload) (q.answerLong i k r payload) q.attn := by
  obtain ⟨slots, order, dup, discard, strikes, barred, lease, mask, attn⟩ := h
  obtain ⟨pSlots, pOrder, pDup, pDiscard, pStrikes, pBarred, pLease, pAttn, pMask⟩ := p
  obtain ⟨qSlots, qOrder, qDup, qDiscard, qStrikes, qBarred, qLease, qAttn, qMask⟩ := q
  dsimp only at slots order dup discard strikes barred lease mask
  subst slots order dup discard strikes barred lease mask
  unfold Port.answerLong
  dsimp only
  split
  · exact ⟨rfl, rfl, rfl, rfl, rfl, rfl, rfl, rfl, rfl⟩
  · unfold Port.answer
    dsimp only
    split <;> exact ⟨rfl, rfl, rfl, rfl, rfl, rfl, rfl, rfl, rfl⟩

theorem sameLines_preemptClear (s : State) (i : LaneId) (m : Marker) : SameLines s (s.preemptClear i (some m)) :=
  sameLines_trans (sameLines_modPort s m.port _) (by constructor <;> rfl)

theorem sameLines_symm {s t : State} (h : SameLines s t) : SameLines t s := by
  exact ⟨h.pending.symm, h.held.symm, h.haltLevel.symm, h.haltPin.symm, h.haltRun.symm, h.haltIn.symm, h.ticks.symm, h.framer.symm,
    h.gapTimer.symm, h.urxLow.symm, h.uTx.symm, h.spi.symm, h.misoOut.symm, h.lineIn.symm, h.straps.symm⟩

/-- An overtaken CLEAR is answered in the same way from either state. -/
theorem OnlyResumed.preempt (h : OnlyResumed s u a) (i : LaneId) (m : Option Marker) :
    OnlyResumed (s.preemptClear i m) (u.preemptClear i m) a := by
  cases m with
  | none => exact h
  | some m =>
    have port : ∀ (v : State) (p : PortId), (v.preemptClear i (some m)).port p
        = if p = m.port then (v.port m.port).answerLong i m.slot .ok [] else v.port p := fun v p => by
      refine Eq.trans ?_ (State.port_modPort v m.port p (·.answerLong i m.slot .ok []))
      cases p <;> rfl
    refine ⟨⟨?_, ?_⟩, ?_, ?_, fun p => ?_, fun stays p => ?_⟩
    · exact (State.modPort_link ..).trans (h.link.link.trans (State.modPort_link ..).symm)
    · exact congrArg (List.filter _) h.link.frames
    · exact (State.modPort_lastServed ..).trans (h.served.trans (State.modPort_lastServed ..).symm)
    · exact sameLines_trans (sameLines_symm (sameLines_preemptClear s i m)) (sameLines_trans h.lines (sameLines_preemptClear u i m))
    · rw [port, port]
      split
      · rw [answerLong_attn]
        exact answerLong_butSet (h.ports m.port) i m.slot .ok []
      · exact h.ports p
    · rw [port, port]
      split
      · rw [answerLong_attn, answerLong_attn, h.quiet stays]
      · exact h.quiet stays p

end

/-- The unresolved CASCADE lanes hold no pending CLEAR (R93). -/
def CascadesFree (s : State) (root : LaneId) : Prop :=
  ∀ j l n c, j ≠ root → s.lane j = some l → l.mode = .tripped .cascade n false c → c = none

section
variable {s u w : State} {root j : LaneId} {a : Bool}

/-- The part of a lane other than the root. -/
theorem OnlyResumed.resolveOne (h : OnlyResumed w u a) (free : CascadesFree s root) (ne : j ≠ root) :
    OnlyResumed w (s.resolveOne root a u j) a := by
  unfold State.resolveOne
  split
  · exact h
  · next l record =>
    split
    · next b leaves =>
      have marker : l.mode.clearMarker = none := by
        obtain is | ⟨n, c, mode⟩ := tripped_of_leaves leaves record
        · exact absurd is ne
        · rw [mode]
          exact free j l n c ne record mode
      unfold State.leaveOne
      rw [marker]
      cases b with
      | false => exact h.put _ _
      | true =>
        cases a with
        | false => cases leaves_standby leaves
        | true => exact (h.put j (some (l.leaveTripped true))).report j .resumed
    · split
      · exact h
      · split
        · exact h.put _ _
        · exact h

theorem OnlyResumed.sweep (free : CascadesFree s root) (js : List LaneId) (apart : root ∉ js) (h : OnlyResumed w u a) :
    OnlyResumed w (js.foldl (s.resolveOne root a) u) a := by
  induction js generalizing u with
  | nil => exact h
  | cons j js ih =>
    exact ih (fun mem => apart (List.mem_cons_of_mem _ mem)) (h.resolveOne free fun is => apart (is ▸ List.mem_cons_self))

/-- A resolution event is the answer of the root's pending CLEAR, if there is one, and records and RESUMED reports. -/
theorem onlyResumed_leaveTripped {l : Lane} (free : CascadesFree s root) (record : s.lane root = some l) (a : Bool) :
    OnlyResumed (s.preemptClear root l.mode.clearMarker) (s.leaveTripped root a) a := by
  obtain ⟨before, after, split⟩ := List.append_of_mem (mem_allLanes root)
  have nodup := allLanes_nodup
  rw [split] at nodup
  obtain ⟨-, tail, disjoint⟩ := List.nodup_append.1 nodup
  have notBefore : root ∉ before := fun mem => disjoint root mem root List.mem_cons_self rfl
  have start : OnlyResumed s (before.foldl (s.resolveOne root a) s) a := .sweep free before notBefore (onlyResumed_refl s a)
  have own : s.resolveOne root a (before.foldl (s.resolveOne root a) s) root
      = (before.foldl (s.resolveOne root a) s).leaveOne root l a := by
    unfold State.resolveOne
    simp only [record, leaves_root]
  unfold State.leaveTripped
  rw [split, List.foldl_append, List.foldl_cons, own]
  refine .sweep free after (List.nodup_cons.1 tail).1 ?_
  unfold State.leaveOne
  refine OnlyResumed.preempt ?_ root _
  cases a with
  | false => exact start.put _ _
  | true => exact (start.put _ _).report _ _

end

end Sys2Proof.LeaveEvents
end

section
/-! PROOF. Replies that resolve a trip, the ends of CLEAR transactions, and the resolution cascade: O44, O49 and O60. -/

namespace Sys2Proof.Resolutions

open Sys2Proof.Machine Sys2Proof.Safety Sys2Proof.Records Sys2Proof.LaneFields Sys2Proof.Checks Sys2Proof.Pending Sys2Proof.LinkSteps
open Sys2Proof.LaneRequests Sys2Proof.Updates Sys2Proof.Sweeps Sys2Proof.LaneEnds Sys2Proof.TripEvents Sys2Proof.LeaveEvents

/-! ## The root of a resolution event -/

section
variable {s u t : State} {i : LaneId} {l l' : Lane} {a : Bool}

/-- In a lawful table the unresolved CASCADE lanes hold no pending CLEAR, whatever becomes of one other lane. -/
theorem cascadesFree_of_laneLaw (law : LaneLaw s) (others : ∀ j, j ≠ i → u.lane j = s.lane j) : CascadesFree u i := by
  intro j l n c ne record mode
  have ok := (law j l ((others j ne).symm.trans record)).mode
  unfold ModeOk at ok
  rw [mode] at ok
  obtain ⟨-, -, -, -, -, -, -, none⟩ := ok
  exact none rfl

theorem linkGuards_onlyResumed (guards : LinkGuards s u) (h : OnlyResumed u t a) : LinkGuards s t :=
  ⟨h.link.link.trans guards.link, sameLines_trans guards.lines h.lines, h.served.trans guards.served⟩

theorem linkGuards_preemptClear (guards : LinkGuards s u) (i : LaneId) (m : Option Marker) : LinkGuards s (u.preemptClear i m) := by
  cases m with
  | none => exact guards
  | some m =>
    exact ⟨(State.modPort_link ..).trans guards.link, sameLines_trans guards.lines (sameLines_preemptClear u i m),
      (State.modPort_lastServed ..).trans guards.served⟩

theorem answersLong_congr {m : Marker} {r : Result} {payload : List Byte} {b : AttnSet} (h : AnswersLong s u i m r payload)
    (same : PortButSet (u.port m.port) (t.port m.port) b) : AnswersLong s t i m r payload := by
  unfold AnswersLong at h ⊢
  rw [same.slots, same.dup, same.discard]
  exact h

theorem answersLong_preemptClear {m : Marker} {b : AttnSet} (h : PortButSet (s.port m.port) (u.port m.port) b) :
    AnswersLong s (u.preemptClear i (some m)) i m .ok [] := by
  have port : ∀ p, (u.preemptClear i (some m)).port p = (u.modPort m.port (·.answerLong i m.slot .ok [])).port p :=
    fun p => by cases p <;> rfl
  refine answersLong_congr (answersLong_modPort h .ok []) (b := ((u.preemptClear i (some m)).port m.port).attn) ?_
  rw [port]
  exact portButSet_refl _

/-- What a lane at the root of a resolution event comes to: for ACTIVE with RESUMED reported, or for STANDBY (R106, R107). -/
structure RootLeft (s t : State) (i : LaneId) (l : Lane) (toActive : Bool) : Prop where
  guards : LinkGuards s t
  resumes : toActive = true → t.lane i = some { l with mode := .active none .idle, output := 0, track := .blending }
    ∧ ∀ p, (t.port p).attn.lanes[i] = entriesAfter s i [.resumed] p
  rests : toActive = false → t.lane i = some { l with mode := .standby, output := 0, track := .blending }
    ∧ ∀ p, (t.port p).attn = (s.port p).attn

theorem attn_preemptClear (u : State) (i : LaneId) (m : Option Marker) (p : PortId) : ((u.preemptClear i m).port p).attn = (u.port p).attn := by
  cases m with
  | none => rfl
  | some m =>
    refine Eq.trans ?_ (attn_answered u i m.port m.slot .ok [] p)
    cases p <;> rfl

theorem rootLeft_leaveTripped (h : LaneEnd s u i l' []) (record : s.lane i = some l) (claim : l'.claim = l.claim) (free : CascadesFree u i)
    (a : Bool) : RootLeft s (u.leaveTripped i a) i l' a := by
  have swept := onlyResumed_leaveTripped free h.record a
  refine ⟨linkGuards_onlyResumed (linkGuards_preemptClear h.guards i _) swept, fun active => ?_, fun stands => ?_⟩
  · subst active
    have view := laneViewOf_of_resumes h.record (leaves_root u i true)
    exact ⟨record_of_laneViewOf view,
      fun p => (entries_of_laneViewOf view p).trans (entriesAfter_of_laneEnd h record claim [.resumed] p)⟩
  · subst stands
    have view := laneViewOf_of_rests h.record (leaves_root u i false)
    refine ⟨record_of_laneViewOf view, fun p => ?_⟩
    rw [swept.quiet rfl, attn_preemptClear, h.attn, setAfter_nil]

/-- With no pending CLEAR the list stands, and the ports but for their sets. -/
theorem leaveTripped_of_unmarked (h : LaneEnd s u i l' []) (free : CascadesFree u i) (unmarked : l'.mode.clearMarker = none) (a : Bool) :
    (u.leaveTripped i a).frames = s.frames
      ∧ ∀ p, PortButSet (s.port p) ((u.leaveTripped i a).port p) ((u.leaveTripped i a).port p).attn := by
  have swept := onlyResumed_leaveTripped free h.record a
  rw [unmarked] at swept
  exact ⟨swept.link.frames.trans h.frames, fun p => portButSet_trans (h.ports p) (swept.ports p)⟩

theorem samePorts_of_attn (served : t.lastServed = s.lastServed) (ports : ∀ p, PortButSet (s.port p) (t.port p) (t.port p).attn)
    (attn : ∀ p, (t.port p).attn = (s.port p).attn) : SamePorts s t := by
  have same : ∀ p, t.port p = s.port p := fun p => portButSet_eq (attn p ▸ ports p)
  exact ⟨same .s, same .u, served⟩

/-- A pending CLEAR is answered OK and its entry leaves the list (R112). -/
theorem leaveTripped_of_marked (h : LaneEnd s u i l' []) (free : CascadesFree u i) {m : Marker} (marked : l'.mode.clearMarker = some m)
    (a : Bool) : AnswersLong s (u.leaveTripped i a) i m .ok []
      ∧ (u.leaveTripped i a).frames = s.frames.filter fun e => e != Entry.mk i .clear := by
  have swept := onlyResumed_leaveTripped free h.record a
  rw [marked] at swept
  exact ⟨answersLong_congr (answersLong_preemptClear (h.ports m.port)) (swept.ports m.port),
    swept.link.frames.trans (congrArg (List.filter _) h.frames)⟩

end

/-! ## Valid READY and RUN replies (R105, R106) -/

section
variable {s : State} {i : LaneId} {l : Lane} {v : DriveView}

theorem readyReply_of_other (other : ∀ k n m, l.mode = .tripped k n false m → k = .cascade) :
    (heardState s i l v).readyReply i = heardState s i l v := by
  unfold State.readyReply
  rw [lane_heardState]
  dsimp only [Lane.heard]
  split
  · next n m mode => cases other _ _ _ mode
  · next n m mode => cases other _ _ _ mode
  all_goals rfl

theorem readyReply_of_own {k : TripCause} {n : Nat} {m : Option Marker} (mode : l.mode = .tripped k n false m) (own : k ≠ .cascade) :
    (heardState s i l v).readyReply i = (heardState s i l v).resolveOwn i (l.heard v) := by
  unfold State.readyReply
  rw [lane_heardState]
  dsimp only [Lane.heard]
  rw [mode]
  cases k with
  | drive => rfl
  | link => rfl
  | cascade => exact absurd rfl own

/-- Without auto resume the trip is resolved and the lane stays (R106). -/
theorem laneEnd_resolveOwn (record : s.lane i = some l) {k : TripCause} {n : Nat} {m : Option Marker} (mode : l.mode = .tripped k n false m)
    (manual : l.cfg.autoResume = false) : LaneEnd s ((heardState s i l v).resolveOwn i (l.heard v)) i
      { l with view := some v, misses := 0, mode := .tripped k n true m } [] := by
  have put : (heardState s i l v).resolveOwn i (l.heard v)
      = (heardState s i l v).putLane i (some { l with view := some v, misses := 0, mode := .tripped k n true m }) := by
    have stays : ¬ (l.heard v).cfg.autoResume = true := fun resumes => by cases manual.symm.trans resumes
    have resolved : (l.heard v).mode.resolve = .tripped k n true m := by
      change l.mode.resolve = _
      rw [mode]
      rfl
    unfold State.resolveOwn
    rw [if_neg stays, resolved]
    rfl
  rw [put]
  exact (laneEnd_heard record v).put rfl

theorem resolveOwn_of_autoResume (resumes : l.cfg.autoResume = true) :
    (heardState s i l v).resolveOwn i (l.heard v) = (heardState s i l v).leaveTripped i (!s.haltLevel) := by
  unfold State.resolveOwn
  exact if_pos resumes

theorem cascadesFree_heardState (law : LaneLaw s) : CascadesFree (heardState s i l v) i :=
  cascadesFree_of_laneLaw law fun _ ne => State.lane_putLane_of_ne _ _ ne

end

section
variable {s : State} {x : Txn} {b : Bool} {chars : List Byte} {r : Reply} {l : Lane}

/-- A valid reply to a REF frame with drive state READY or RUN. -/
theorem exec_readyReply (running : s.held = false) (awaiting : s.link = .awaiting x b) (fresh : x.stale = false) (kind : x.kind = .ref)
    (valid : validReply x chars = some r) (ready : r.view.state ≠ .trip) (record : s.lane x.lane = some l)
    (service : ∀ m, l.mode ≠ .defining m) :
    exec (.driveReply chars) s = .next ((heardState s x.lane l r.view).readyReply x.lane) := by
  rw [exec_driveReply running awaiting, valid, endTransaction_of_ref fresh record kind service]
  unfold State.refEnd
  dsimp only
  rw [if_neg ready]
  rfl

theorem tripped_service {k : TripCause} {n : Nat} {res : Bool} {m : Option Marker} (mode : l.mode = .tripped k n res m) :
    ∀ m, l.mode ≠ .defining m := by
  rw [mode]
  exact fun _ h => by cases h

/-- A valid reply that reaches nothing but the drive view and the miss count (R172). -/
theorem exec_heard (running : s.held = false) (awaiting : s.link = .awaiting x b) (fresh : x.stale = false) (kind : x.kind = .ref)
    (valid : validReply x chars = some r) (record : s.lane x.lane = some l)
    (plain : l.mode = .standby
      ∨ (r.view.state ≠ .trip ∧ l.mode.isMoving = true)
      ∨ (∃ k n m, r.view.state ≠ .trip ∧ (l.mode = .tripped k n true m ∨ l.mode = .tripped .cascade n false m))
      ∨ (∃ n m, r.view.state = .trip ∧ l.mode = .tripped .drive n false m)) :
    exec (.driveReply chars) s = .next (heardState s x.lane l r.view) := by
  obtain standby | ⟨ready, moving⟩ | ⟨k, n, m, ready, mode⟩ | ⟨n, m, trip, mode⟩ := plain
  · have service : ∀ m, l.mode ≠ .defining m := by
      rw [standby]
      exact fun _ h => by cases h
    by_cases trip : r.view.state = .trip
    · rw [exec_tripReply running awaiting fresh kind valid trip record service, tripReply_standby standby]
    · rw [exec_readyReply running awaiting fresh kind valid trip record service, readyReply_of_other]
      intro k n m mode
      rw [standby] at mode
      cases mode
  · rw [exec_readyReply running awaiting fresh kind valid ready record (moving_service moving), readyReply_of_other]
    intro k n m mode
    rw [mode] at moving
    cases moving
  · obtain mode | mode := mode
    all_goals
      rw [exec_readyReply running awaiting fresh kind valid ready record (tripped_service mode), readyReply_of_other]
      intro k' n' m' mode'
      rw [mode] at mode'
      cases mode'
    rfl
  · rw [exec_tripReply running awaiting fresh kind valid trip record (tripped_service mode), tripReply_drive mode]

end

/-- Settles O44: a reply that is heard, or the resolution of the lane's own trip with or without a pending CLEAR. -/
theorem readyReplyUpdatesAndResolves : Obligations.ReadyReplyUpdatesAndResolves := by
  refine ⟨fun s x b chars r l running awaiting fresh kind valid record plain => ?_,
    fun s x b chars r l k n law running awaiting fresh kind valid ready record mode own => ?_,
    fun s x b chars r l k n m law running awaiting fresh kind valid ready record mode own => ?_⟩
  · have done := laneEnd_heard record r.view
    exact ⟨_, exec_heard running awaiting fresh kind valid record plain, done.guards, done.writes record rfl, done.samePorts, done.frames⟩
  · have event := exec_readyReply running awaiting fresh kind valid ready record (tripped_service mode)
    rw [readyReply_of_own mode own] at event
    cases resumes : l.cfg.autoResume with
    | false =>
      have done := laneEnd_resolveOwn (v := r.view) record mode resumes
      exact ⟨_, event, done.guards, done.frames, fun _ => ⟨done.writes record rfl, done.samePorts⟩, nofun, nofun⟩
    | true =>
      have heard := laneEnd_heard record r.view
      have free : CascadesFree (heardState s x.lane l r.view) x.lane := cascadesFree_heardState law
      obtain ⟨guards, active, rests⟩ := rootLeft_leaveTripped heard record rfl free (!s.haltLevel)
      obtain ⟨frames, ports⟩ := leaveTripped_of_unmarked heard free
        (show l.mode.clearMarker = none by rw [mode]; rfl) (!s.haltLevel)
      rw [resolveOwn_of_autoResume resumes] at event
      refine ⟨_, event, guards, frames, nofun, fun _ halt => ?_, fun _ released => active (by rw [released]; rfl)⟩
      obtain ⟨lane, attn⟩ := rests (by rw [halt]; rfl)
      exact ⟨lane, samePorts_of_attn guards.served ports attn⟩
  · have event := exec_readyReply running awaiting fresh kind valid ready record (tripped_service mode)
    rw [readyReply_of_own mode own] at event
    cases resumes : l.cfg.autoResume with
    | false =>
      have done := laneEnd_resolveOwn (v := r.view) record mode resumes
      exact ⟨_, event, done.guards, fun _ => ⟨done.writes record rfl, done.samePorts, done.frames⟩, nofun, nofun, nofun⟩
    | true =>
      have heard := laneEnd_heard record r.view
      have free : CascadesFree (heardState s x.lane l r.view) x.lane := cascadesFree_heardState law
      obtain ⟨guards, active, rests⟩ := rootLeft_leaveTripped heard record rfl free (!s.haltLevel)
      obtain ⟨answer, frames⟩ := leaveTripped_of_marked heard free
        (show l.mode.clearMarker = some m by rw [mode]; rfl) (!s.haltLevel)
      rw [resolveOwn_of_autoResume resumes] at event
      exact ⟨_, event, guards, nofun, fun _ => ⟨answer, frames⟩, fun _ halt => rests (by rw [halt]; rfl),
        fun _ released => active (by rw [released]; rfl)⟩

/-! ## CLEAR transactions (R111, R177) -/

section
variable {s : State} {i : LaneId} {l : Lane} {k : TripCause} {n : Nat} {res : Bool} {m : Marker} {r : Reply}

/-- The state in which a lane leaves TRIPPED at the end of its CLEAR transaction. -/
def clearedState (s : State) (i : LaneId) (l : Lane) (v : DriveView) : State :=
  (guardState s).putLane i (some { l.heard v with mode := l.mode.dropClear })

theorem laneEnd_clearedState (record : s.lane i = some l) (v : DriveView) :
    LaneEnd s (clearedState s i l v) i { l.heard v with mode := l.mode.dropClear } [] := (laneEnd_guardState record).put rfl

theorem clearEnd_of_ready (ready : r.view.state ≠ .trip) : (guardState s).clearEnd i l m (some r)
    = ((clearedState s i l r.view).leaveTripped i false).modPort m.port (·.answerLong i m.slot .ok []) := by
  unfold State.clearEnd
  exact if_neg ready

theorem clearEnd_of_trip (trip : r.view.state = .trip) : (guardState s).clearEnd i l m (some r)
    = ((heardState s i l r.view).tripReply i r.view.tripCode).endClear i m .stillTripped := by
  unfold State.clearEnd
  exact if_pos trip

theorem clearEnd_of_none : (guardState s).clearEnd i l m none = ((guardState s).miss i l).endClear i m .noDrive := rfl

theorem dropClear_tripped (mode : l.mode = .tripped k n res (some m)) : l.mode.dropClear = .tripped k n res none := by
  rw [mode]
  rfl

/-- The end of a CLEAR transaction that leaves the lane TRIPPED or drops it from the link: the pending operation ends with its answer. -/
structure ClearEnded (s t : State) (i : LaneId) (l : Lane) (m : Marker) (r : Result) (rs : List LaneReport) : Prop where
  guards : LinkGuards s t
  frames : t.frames = s.frames
  answer : AnswersLong s t i m r []
  writes : WritesLane s t i (some { l with mode := l.mode.dropClear })
  attn : ∀ p, (t.port p).attn = setAfter s i rs p

theorem clearEnded_endClear {u : State} {l' : Lane} {rs : List LaneReport} (h : LaneEnd s u i l' rs) (record : s.lane i = some l)
    (queue : l'.queue = l.queue) (m : Marker) (r : Result) : ClearEnded s (u.endClear i m r) i l' m r rs := by
  obtain ⟨guards, frames, answer, w, is, done⟩ := h.endClear m r
  refine ⟨guards, frames, answer, ?_, fun p => ?_⟩
  · rw [is]
    exact writes_modPort (done.writes record queue) _ _
  · rw [is, attn_answered]
    exact done.attn p

end

/-- Settles O49: the reply by its drive state, and the miss by its count. -/
theorem clearTransactionEnds : Obligations.ClearTransactionEnds := by
  intro s x b l k n res m law running awaiting fresh kind record mode
  have dropped : l.mode.dropClear = .tripped k n res none := dropClear_tripped mode
  refine ⟨fun chars r valid ready => ?_, fun chars r valid trip => ?_, fun e ends => ?_⟩
  · have event := exec_driveReply running awaiting chars
    rw [valid, endTransaction_of_clear fresh record kind mode, clearEnd_of_ready ready] at event
    have before := laneEnd_clearedState record r.view
    have free : CascadesFree (clearedState s x.lane l r.view) x.lane := cascadesFree_of_laneLaw law before.others
    obtain ⟨guards, -, rests⟩ := rootLeft_leaveTripped before record rfl free false
    obtain ⟨frames, ports⟩ := leaveTripped_of_unmarked before free (show l.mode.dropClear.clearMarker = none by rw [dropped]; rfl) false
    exact ⟨_, event, linkGuards_modPort guards _ _, (State.modPort_frames ..).trans frames, (State.lane_modPort ..).trans (rests rfl).1,
      answersLong_modPort (ports m.port) .ok []⟩
  · have event := exec_driveReply running awaiting chars
    rw [valid, endTransaction_of_clear fresh record kind mode, clearEnd_of_trip trip] at event
    by_cases same : k = .drive ∧ res = false
    · obtain ⟨rfl, rfl⟩ := same
      rw [tripReply_drive mode] at event
      obtain ⟨guards, frames, answer, writes, attn⟩ := clearEnded_endClear (laneEnd_heard record r.view) record rfl m .stillTripped
      refine ⟨_, event, guards, frames, answer, fun _ _ => ⟨?_, fun p => (attn p).trans (setAfter_nil ..)⟩, fun other => ?_⟩
      · have is : (l.heard r.view).mode.dropClear = .tripped .drive n false none := dropped
        rw [is] at writes
        exact writes
      · obtain other | other := other
        · exact absurd rfl other
        · cases other
    · have other : k = .drive → res = true := fun drive => by
        cases res with
        | true => rfl
        | false => exact absurd ⟨drive, rfl⟩ same
      obtain ⟨guards, frames, answer, writes, attn⟩ :=
        clearEnded_endClear (laneEnd_tripReply record mode other r.view r.view.tripCode) record rfl m .stillTripped
      exact ⟨_, event, guards, frames, answer, fun drive unresolved => absurd ⟨drive, unresolved⟩ same, fun _ => ⟨writes, attn⟩⟩
  · have event := exec_endsWithout running awaiting ends
    rw [endTransaction_of_clear fresh record kind mode, clearEnd_of_none] at event
    obtain low | third | high : l.misses < 2 ∨ l.misses = 2 ∨ 3 ≤ l.misses := by omega
    · obtain ⟨guards, frames, answer, writes, attn⟩ := clearEnded_endClear (laneEnd_miss_low record low) record rfl m .noDrive
      refine ⟨_, event, guards, frames, answer, fun _ => ⟨?_, fun p => (attn p).trans (setAfter_nil ..)⟩, fun h => absurd low (by omega),
        fun h => absurd low (by omega)⟩
      rw [dropped] at writes
      exact writes
    · rw [miss_third third] at event
      obtain ⟨guards, frames, answer, writes, attn⟩ := clearEnded_endClear (laneEnd_linkLoss_tripped record mode) record rfl m .noDrive
      exact ⟨_, event, guards, frames, answer, fun h => absurd third (by omega), fun _ => ⟨writes, attn⟩, fun h => absurd third (by omega)⟩
    · obtain ⟨guards, frames, answer, writes, attn⟩ := clearEnded_endClear (laneEnd_miss_high record high) record rfl m .noDrive
      refine ⟨_, event, guards, frames, answer, fun h => absurd high (by omega), fun h => absurd high (by omega),
        fun _ => ⟨?_, fun p => (attn p).trans (setAfter_nil ..)⟩⟩
      rw [dropped] at writes
      exact writes

/-! ## The resolution cascade (R88) -/

section
variable {s : State} {c : Ctx} {i : LaneId} {l : Lane}

theorem laneViewOf_keyState (s : State) (c : Ctx) (l : Lane) (j : LaneId) : laneViewOf j (keyState s c l) = laneViewOf j s := by
  have port : ∀ p, ((keyState s c l).port p).mask = (s.port p).mask ∧ ((keyState s c l).port p).attn = (s.port p).attn := by
    intro p
    by_cases own : p = c.port
    · rw [own, keyState_port]
      unfold afterKey
      split <;> exact ⟨rfl, rfl⟩
    · have other : p = otherPort c.port := by
        revert own
        cases p <;> cases c.port <;> simp [otherPort]
      rw [other, keyState_other]
      exact ⟨rfl, rfl⟩
  unfold laneViewOf
  simp only [keyState_lane, port]

theorem butLane_keyState (record : s.lane i = some l) : ButLane s (keyState s c l) i where
  views j _ := laneViewOf_keyState s c l j
  claims j := by rw [keyState_lane]
  parents j := by
    unfold State.parentOf
    rw [keyState_lane]
  inService j := by
    rintro ⟨n, lane, modes⟩
    exact ⟨n, (keyState_lane s c l j).trans lane, modes⟩
  recorded := ⟨l, l, record, (keyState_lane s c l i).trans record⟩
  frames := (keyState_link s c l).frames
  halt := (keyState_lines s c l).haltLevel

theorem laneViewOf_answer (t : State) (p : PortId) (k : SlotId) (r : Result) (payload : List Byte) (j : LaneId) :
    laneViewOf j (t.modPort p (·.answer k r payload)) = laneViewOf j t :=
  laneViewOf_modPort (Port.answer_mask ..) (by rw [Port.answer_attn])

theorem answerLong_mask (p : Port) (i : LaneId) (k : SlotId) (r : Result) (payload : List Byte) :
    (p.answerLong i k r payload).mask = p.mask := by
  unfold Port.answerLong
  split
  · rfl
  · exact Port.answer_mask ..

theorem laneViewOf_answerLong (t : State) (p : PortId) (i : LaneId) (k : SlotId) (r : Result) (payload : List Byte) (j : LaneId) :
    laneViewOf j (t.modPort p (·.answerLong i k r payload)) = laneViewOf j t :=
  laneViewOf_modPort (answerLong_mask ..) (by rw [answerLong_attn])

/-- CLEAR_TRIP of a resolved lane (R110). -/
theorem exec_clearTrip_resolved {k : TripCause} {n : Nat} {m : Option Marker} (serves : Serves s c .clearTrip)
    (length : c.req.payload.length = 0) (reaches : Reaches s c i l false) (mode : l.mode = .tripped k n true m) :
    exec .clearTrip s = .next (((keyState s c l).leaveTripped i false).modPort c.port (·.answer c.slot .ok [])) := by
  have action := action_of_reaches (act := clearTripAction) (fun _ => rfl) (lengthIs_iff.2 length) reaches
  rw [exec_request (row := .clearTrip) (by decide) serves]
  refine congrArg _ ?_
  change afterRequest clearTripAction s c = _
  unfold afterRequest
  rw [action, mode]
  rfl

end

/-- Settles O60: the cascade of each event, from the lane as the event finds it. -/
theorem resolutionCascadesDownChains : Obligations.ResolutionCascadesDownChains := by
  refine ⟨fun s x b chars r l k n m tree law running awaiting fresh kind valid ready record mode own resumes => ?_,
    fun s c i l k n m tree law serves length reaches mode => ?_,
    fun s x b chars r l k n res m tree law running awaiting fresh kind valid ready record mode => ?_⟩
  · have event := exec_readyReply running awaiting fresh kind valid ready record (tripped_service mode)
    rw [readyReply_of_own mode own, resolveOwn_of_autoResume resumes] at event
    have before := butLane_of_laneEnd (laneEnd_heard record r.view) record rfl rfl (tripped_service mode)
    exact ⟨_, event, resolutionCascades_leaveTripped before tree _ fun _ => rfl⟩
  · exact ⟨_, exec_clearTrip_resolved serves length reaches mode,
      resolutionCascades_leaveTripped (butLane_keyState reaches.record) tree false fun j => laneViewOf_answer ..⟩
  · have event := exec_driveReply running awaiting chars
    rw [valid, endTransaction_of_clear fresh record kind mode, clearEnd_of_ready ready] at event
    have service : ∀ m, l.mode.dropClear ≠ .defining m := by
      rw [dropClear_tripped mode]
      exact fun _ h => by cases h
    have before := butLane_of_laneEnd (laneEnd_clearedState record r.view) record rfl rfl service
    exact ⟨_, event, resolutionCascades_leaveTripped before tree false fun j => laneViewOf_answerLong ..⟩

end Sys2Proof.Resolutions
end
